-- ==== Sys2Proof/Word.lean ====
section
/-! DEFINITION. The plain data types of MIP-QDSP: bytes, pin words, transition words, counters, and the names
of the two encoders and of the four loop phases. -/

namespace Sys2Proof

/-- A byte of a serial stream (R9: bytes are 8 bits). -/
abbrev Byte := BitVec 8

/-- The PIN format of R47: bit 1 is the level of phase pin A, bit 0 that of phase pin B. -/
abbrev PinWord := BitVec 2

/-- The TRANS format of R48: bits 3:2 the latch phase, bits 1:0 the new pin word. -/
abbrev TransWord := BitVec 4

/-- A 16-bit field of a frame (R52, R56). -/
abbrev Half := BitVec 16

/-- A position counter of `POS_WIDTH` = 32 bits, two's complement (R7, R17, R72). -/
abbrev Count := BitVec 32

/-- The two encoder instances (R7 `N_ENC`, R16): index 0 is the cart, index 1 the pendulum angle. -/
inductive Encoder where
  | cart
  | angle
deriving DecidableEq, Repr, Inhabited

/-- One value for each encoder (R16: the instances share no field). -/
structure PerEncoder (α : Type) where
  cart : α
  angle : α
deriving DecidableEq, Repr

/-- The value of encoder `e`. -/
def PerEncoder.get {α : Type} (p : PerEncoder α) : Encoder → α
  | .cart => p.cart
  | .angle => p.angle

/-- `p` with the value of encoder `e` replaced. -/
def PerEncoder.set {α : Type} (p : PerEncoder α) (e : Encoder) (a : α) : PerEncoder α :=
  match e with
  | .cart => { p with cart := a }
  | .angle => { p with angle := a }

/-- The values of the Control Loop's sequencer `loop.phase` (R23): sample cart, sample angle, report, receive. -/
inductive LoopPhase where
  | l0
  | l1
  | l2
  | l3
deriving DecidableEq, Repr, Inhabited

end Sys2Proof
end

