-- ==== Sys2Proof/Config.lean ====
section
/-! DEFINITION. What the built block fixes (R7, R30), what an implementation chooses (the parameters of R7), the
turns an interleaving is made of (R6, R61, R98), and the one free value of the model. -/

namespace Sys2Proof

/-- Counts per valid transition (R7 `LATCH_DIV`, 90_conflicts C1): 1, the default, or 4. -/
inductive LatchDiv where
  | one
  | four
deriving DecidableEq, Repr

/-- The reset value of the change gate (R7 `LAST_SENT_INIT`). -/
inductive LastSentInit where
  | none
  | zero
deriving DecidableEq, Repr

/-- The parameters of R7 that are not fixed numbers. No operation writes them (R30). -/
structure Params where
  /-- `LATCH_DIV`, R7, R65. -/
  latchDiv : LatchDiv
  /-- `LATCH_PHASE`, R7, R65; used only with `LATCH_DIV` = 4. -/
  latchPhase : PinWord
  /-- `LAST_SENT_INIT`, R7, R22. -/
  lastSentInit : LastSentInit
  /-- `RX_CAPACITY`, OPEN in R7: a positive integer, the capacity of the input buffer (R28). -/
  rxCapacity : Nat
  /-- `FIELD_A_SIGNED`, OPEN in R7: how the host reads field A (R55). No bit the block emits depends on it. -/
  fieldASigned : Bool
deriving DecidableEq, Repr

/-- One atomic step of one agent (R6, R98), with the data that the agent brings: the stimulus actions of R61. -/
inductive Turn where
  /-- MAIN takes one step (R61 `STEP`, R95). -/
  | main
  /-- QD[e] takes one step: a pending or a spurious pin-change interrupt is serviced (R61 `TICK e`, R106, R109). -/
  | tick (e : Encoder)
  /-- HOST_RX appends one byte to `rx` (R61 `RX`, R28). -/
  | deliver (b : Byte)
  /-- ENV sets the pin word of encoder `e` (R61 `PINS e p`, R21, R29). -/
  | setPins (e : Encoder) (p : PinWord)
  /-- Power is removed and comes back with the pins at `p0` and `p1` (R61 `RESET p0 p1`, R116, R117). -/
  | powerOn (p0 p1 : PinWord)
deriving DecidableEq, Repr, Inhabited

namespace Config

/-- `MODULUS` = 1200 (R7, R73). -/
def modulus : Nat := 1200

/-- `TX_SYNC` = 0xAA (R7, R52). -/
def txSync : Byte := 0xAA#8

/-- `RX_SYNC` = 0x55 (R7, R56). -/
def rxSync : Byte := 0x55#8

/-- `RX_FRAME_LEN` = 3, also the availability threshold of the Command Decoder (R7, R86). -/
def rxFrameLen : Nat := 3

/-- `TX_FRAME_LEN` = 5 (R7, R52). -/
def txFrameLen : Nat := 5

/-- The FREE VALUE of the model: the turn that comes next where no script says it (R98: any agent's step may
come next; R107: the order of two pending TICKs is open). It has no body, so nothing is known of it, and a
statement about every state holds for every interleaving. DESIGN CHOICE, safe: log entry 1. -/
opaque freeTurn : Nat → Turn

/-- The parameters of the default block (R7). `rxCapacity` and `fieldASigned` are OPEN in R7: their values here
are DESIGN CHOICE, unsafe to rest on (log entries 4 and 5). -/
def defaultParams : Params where
  latchDiv := .one
  latchPhase := 0b11#2
  lastSentInit := .none
  rxCapacity := 64
  fieldASigned := true

end Config

end Sys2Proof
end

