-- ==== Sys2Proof/Syntax.lean ====
section
/-! DEFINITION. The operations of MIP-QDSP as syntax: one constructor per row of spec/opcode_table.json
(R60 and the 16 transition rows of R50). -/

namespace Sys2Proof

/-- The operations and encoded words of the block. MIP-QDSP is no instruction-set processor (R1): its
"instructions" are the operations of its parts, the transition words and the two frames. -/
inductive Instr where
  /-- Transition word 0 of a TICK of QD[e]: latch phase 00, pin word 00, no pin changed, delta 0 (R50, R64). -/
  | qdNull00to00 (e : Encoder)
  /-- Transition word 1 of a TICK of QD[e]: latch phase 00, pin word 01, reverse, delta -1 (R50, R64). -/
  | qdRev00to01 (e : Encoder)
  /-- Transition word 2 of a TICK of QD[e]: latch phase 00, pin word 10, forward, delta +1 (R50, R64). -/
  | qdFwd00to10 (e : Encoder)
  /-- Transition word 3 of a TICK of QD[e]: latch phase 00, pin word 11, both pins changed, delta 0 (R50, R64). -/
  | qdInvalid00to11 (e : Encoder)
  /-- Transition word 4 of a TICK of QD[e]: latch phase 01, pin word 00, forward, delta +1 (R50, R64). -/
  | qdFwd01to00 (e : Encoder)
  /-- Transition word 5 of a TICK of QD[e]: latch phase 01, pin word 01, no pin changed, delta 0 (R50, R64). -/
  | qdNull01to01 (e : Encoder)
  /-- Transition word 6 of a TICK of QD[e]: latch phase 01, pin word 10, both pins changed, delta 0 (R50, R64). -/
  | qdInvalid01to10 (e : Encoder)
  /-- Transition word 7 of a TICK of QD[e]: latch phase 01, pin word 11, reverse, delta -1 (R50, R64). -/
  | qdRev01to11 (e : Encoder)
  /-- Transition word 8 of a TICK of QD[e]: latch phase 10, pin word 00, reverse, delta -1 (R50, R64). -/
  | qdRev10to00 (e : Encoder)
  /-- Transition word 9 of a TICK of QD[e]: latch phase 10, pin word 01, both pins changed, delta 0 (R50, R64). -/
  | qdInvalid10to01 (e : Encoder)
  /-- Transition word 10 of a TICK of QD[e]: latch phase 10, pin word 10, no pin changed, delta 0 (R50, R64). -/
  | qdNull10to10 (e : Encoder)
  /-- Transition word 11 of a TICK of QD[e]: latch phase 10, pin word 11, forward, delta +1 (R50, R64). -/
  | qdFwd10to11 (e : Encoder)
  /-- Transition word 12 of a TICK of QD[e]: latch phase 11, pin word 00, both pins changed, delta 0 (R50, R64). -/
  | qdInvalid11to00 (e : Encoder)
  /-- Transition word 13 of a TICK of QD[e]: latch phase 11, pin word 01, forward, delta +1 (R50, R64). -/
  | qdFwd11to01 (e : Encoder)
  /-- Transition word 14 of a TICK of QD[e]: latch phase 11, pin word 10, reverse, delta -1 (R50, R64). -/
  | qdRev11to10 (e : Encoder)
  /-- Transition word 15 of a TICK of QD[e]: latch phase 11, pin word 11, no pin changed, delta 0 (R50, R64). -/
  | qdNull11to11 (e : Encoder)
  /-- TICK of QD[e], with the transition word read from the state (R64, R65). -/
  | tick (e : Encoder)
  /-- GET_POSITION(e) (R71). -/
  | getPosition (e : Encoder)
  /-- NORMALIZE, on `loop.angle_raw` (R73, R76). -/
  | normalize
  /-- SNAPSHOT, on `loop.cart` and `loop.angle_raw` (R78). -/
  | snapshot
  /-- MAYBE_SEND, on the snapshot of R78 (R80). -/
  | maybeSend
  /-- CMD_POLL (R86). -/
  | cmdPoll
  /-- CMD_WAIT, the outcome of CMD_POLL with fewer than three bytes waiting (R87). -/
  | cmdWait
  /-- CMD_DISCARD(b0), the outcome of CMD_POLL with a head byte `b0` other than 0x55 (R88). -/
  | cmdDiscard (b0 : Byte)
  /-- CMD_DECODE, the outcome of CMD_POLL with head byte 0x55 (R89). -/
  | cmdDecode
  /-- LOOP_STEP, one MAIN step at `loop.phase` (R95). -/
  | loopStep
  /-- TXF, an outbound frame: `a` = A[7:0], `aHi` = A[15:8], `b` = B[7:0], `bHi` = B[15:8] (R52). -/
  | txf (a aHi b bHi : Byte)
  /-- RXF, an inbound frame: `lo` = S[7:0], `hi` = S[15:8] (R56). -/
  | rxf (lo hi : Byte)
deriving DecidableEq, Repr

end Sys2Proof
end

