-- ==== Sys2Proof/WellFormed.lean ====
section
/-! DEFINITION. Which terms of the syntax stand for a row of the opcode table. Every register, encoder and byte
operand is in range by its type; the one check left is the head byte of CMD_DISCARD. -/

namespace Sys2Proof

/-- CMD_DISCARD takes any head byte other than 0x55 (R88); every other operand may take every value (R51, R52,
R56, R57: every 16-bit pattern is a legal speed, R58: a payload byte may equal a sync byte). -/
def Instr.wellFormed : Instr → Bool
  | .qdNull00to00 _ => true
  | .qdRev00to01 _ => true
  | .qdFwd00to10 _ => true
  | .qdInvalid00to11 _ => true
  | .qdFwd01to00 _ => true
  | .qdNull01to01 _ => true
  | .qdInvalid01to10 _ => true
  | .qdRev01to11 _ => true
  | .qdRev10to00 _ => true
  | .qdInvalid10to01 _ => true
  | .qdNull10to10 _ => true
  | .qdFwd10to11 _ => true
  | .qdInvalid11to00 _ => true
  | .qdFwd11to01 _ => true
  | .qdRev11to10 _ => true
  | .qdNull11to11 _ => true
  | .tick _ => true
  | .getPosition _ => true
  | .normalize => true
  | .snapshot => true
  | .maybeSend => true
  | .cmdPoll => true
  | .cmdWait => true
  | .cmdDiscard b0 => b0 != Config.rxSync
  | .cmdDecode => true
  | .loopStep => true
  | .txf _ _ _ _ => true
  | .rxf _ _ => true

end Sys2Proof
end

