-- ==== Sys2Proof/Decode.lean ====
section
/-! DEFINITION. The decoder, total on every word and every byte list, and after it the encoder. The formats are
those of R46 and the opcode table's head byte (log entry 14); the selection of the operations that have no word of their own is that of R60. -/

namespace Sys2Proof

/-- The formats of R46, and the head byte, with a word in one of them. R58: a reader tells the format by where the word stands, so
the format is part of the datum: the pins of an encoder, the head of `rx`, a whole inbound frame, a whole
outbound frame. -/
inductive Code where
  /-- TRANS (R48): the word that one TICK of QD[e] classifies. -/
  | trans (e : Encoder) (w : TransWord)
  /-- RXF-HEAD: the byte at the head of `rx` that CMD_POLL examines when three bytes wait (R86). The opcode table
  names this format for CMD_DISCARD; R46 does not list it. DEDUCED (log entry 14). -/
  | head (b : Byte)
  /-- RXF (R56): the bytes of an inbound frame, first on the wire first. -/
  | inbound (bytes : List Byte)
  /-- TXF (R52): the bytes of an outbound frame, first on the wire first. -/
  | outbound (bytes : List Byte)
deriving DecidableEq, Repr

/-- The names of the formats, as the opcode table has them; OP is the format of the
rows that `encode` gives no word (log entry 15). -/
inductive Format where
  | trans
  | rxfHead
  | rxf
  | txf
  | op
deriving DecidableEq, Repr

/-- Why the decoder rejects a byte list. No transition word and no head byte is rejected (R51, R59). -/
inductive DecodeError where
  /-- An inbound frame is three bytes (R56, R58). -/
  | inboundLength (n : Nat)
  /-- An inbound frame begins with 0x55 (R56). -/
  | inboundSync (b : Byte)
  /-- An outbound frame is five bytes (R52, R58). -/
  | outboundLength (n : Nat)
  /-- An outbound frame begins with 0xAA (R52). -/
  | outboundSync (b : Byte)
deriving DecidableEq, Repr

/-- The row of the transition table that word `w` of a TICK of QD[e] is (R48, R50). Total: R51 gives every one of
the 16 words a row. -/
def decodeTrans (e : Encoder) (w : TransWord) : Instr :=
  match w.toNat with
  | 0 => .qdNull00to00 e
  | 1 => .qdRev00to01 e
  | 2 => .qdFwd00to10 e
  | 3 => .qdInvalid00to11 e
  | 4 => .qdFwd01to00 e
  | 5 => .qdNull01to01 e
  | 6 => .qdInvalid01to10 e
  | 7 => .qdRev01to11 e
  | 8 => .qdRev10to00 e
  | 9 => .qdInvalid10to01 e
  | 10 => .qdNull10to10 e
  | 11 => .qdFwd10to11 e
  | 12 => .qdInvalid11to00 e
  | 13 => .qdFwd11to01 e
  | 14 => .qdRev11to10 e
  | _ => .qdNull11to11 e

/-- The outcome that head byte `b` selects when three bytes wait (R86): 0x55 selects CMD_DECODE, which the opcode
table puts above CMD_DISCARD. -/
def decodeHead (b : Byte) : Instr :=
  if b = Config.rxSync then .cmdDecode else .cmdDiscard b

/-- The outcome of CMD_POLL on the buffer `rx` (R86): the count is tested first, then the head byte. -/
def decodePoll (rx : List Byte) : Instr :=
  if rx.length < Config.rxFrameLen then .cmdWait
  else match rx with
    | [] => .cmdWait
    | b :: _ => decodeHead b

/-- An inbound frame (R56). -/
def decodeInbound (bytes : List Byte) : Except DecodeError Instr :=
  match bytes with
  | [sync, lo, hi] => if sync = Config.rxSync then .ok (.rxf lo hi) else .error (.inboundSync sync)
  | other => .error (.inboundLength other.length)

/-- An outbound frame (R52). -/
def decodeOutbound (bytes : List Byte) : Except DecodeError Instr :=
  match bytes with
  | [sync, a, aHi, b, bHi] =>
    if sync = Config.txSync then .ok (.txf a aHi b bHi) else .error (.outboundSync sync)
  | other => .error (.outboundLength other.length)

/-- The decoder: the row that a word of one of the four formats stands for, or the name of what is wrong. -/
def decode : Code → Except DecodeError Instr
  | .trans e w => .ok (decodeTrans e w)
  | .head b => .ok (decodeHead b)
  | .inbound bytes => decodeInbound bytes
  | .outbound bytes => decodeOutbound bytes

/-- The operation that an interrupt of encoder `e` selects (R60, R104): its one fixed handler. -/
def interruptOperation (e : Encoder) : Instr := .tick e

/-- The operation that one MAIN step is, at any loop phase (R60, R95). -/
def mainOperation : Instr := .loopStep

/-- The operations that loop phase `p` selects, in their order (R60, R95). They have no word of their own. -/
def operationsAt : LoopPhase → List Instr
  | .l0 => [.getPosition .cart]
  | .l1 => [.getPosition .angle]
  | .l2 => [.normalize, .snapshot, .maybeSend]
  | .l3 => [.cmdPoll]

/-- The word of an instruction in its format, and none for the operations that a trigger selects (R60): R71, R73, R78 and
R95 say "Encoding: none", R87 says nothing, and the "Encoding" lines of R64, R80 and R86 name the word that the
operation reads or sends, which is a row of its own here. DEDUCED (log entry 15). -/
def encode : Instr → Option Code
  | .qdNull00to00 e => some (.trans e 0b0000#4)
  | .qdRev00to01 e => some (.trans e 0b0001#4)
  | .qdFwd00to10 e => some (.trans e 0b0010#4)
  | .qdInvalid00to11 e => some (.trans e 0b0011#4)
  | .qdFwd01to00 e => some (.trans e 0b0100#4)
  | .qdNull01to01 e => some (.trans e 0b0101#4)
  | .qdInvalid01to10 e => some (.trans e 0b0110#4)
  | .qdRev01to11 e => some (.trans e 0b0111#4)
  | .qdRev10to00 e => some (.trans e 0b1000#4)
  | .qdInvalid10to01 e => some (.trans e 0b1001#4)
  | .qdNull10to10 e => some (.trans e 0b1010#4)
  | .qdFwd10to11 e => some (.trans e 0b1011#4)
  | .qdInvalid11to00 e => some (.trans e 0b1100#4)
  | .qdFwd11to01 e => some (.trans e 0b1101#4)
  | .qdRev11to10 e => some (.trans e 0b1110#4)
  | .qdNull11to11 e => some (.trans e 0b1111#4)
  | .tick _ => none
  | .getPosition _ => none
  | .normalize => none
  | .snapshot => none
  | .maybeSend => none
  | .cmdPoll => none
  | .cmdWait => none
  | .cmdDiscard b0 => some (.head b0)
  | .cmdDecode => some (.head Config.rxSync)
  | .loopStep => none
  | .txf a aHi b bHi => some (.outbound [Config.txSync, a, aHi, b, bHi])
  | .rxf lo hi => some (.inbound [Config.rxSync, lo, hi])

/-- The format of a word. -/
def codeFormat : Code → Format
  | .trans _ _ => .trans
  | .head _ => .rxfHead
  | .inbound _ => .rxf
  | .outbound _ => .txf

/-- The format in which the row of an instruction has its word. The table calls CMD_DECODE's format RXF and gives
it the one byte 0x55 (mask 0xFF): it is the head byte. -/
def instrFormat : Instr → Format
  | .qdNull00to00 _ => .trans
  | .qdRev00to01 _ => .trans
  | .qdFwd00to10 _ => .trans
  | .qdInvalid00to11 _ => .trans
  | .qdFwd01to00 _ => .trans
  | .qdNull01to01 _ => .trans
  | .qdInvalid01to10 _ => .trans
  | .qdRev01to11 _ => .trans
  | .qdRev10to00 _ => .trans
  | .qdInvalid10to01 _ => .trans
  | .qdNull10to10 _ => .trans
  | .qdFwd10to11 _ => .trans
  | .qdInvalid11to00 _ => .trans
  | .qdFwd11to01 _ => .trans
  | .qdRev11to10 _ => .trans
  | .qdNull11to11 _ => .trans
  | .tick _ => .op
  | .getPosition _ => .op
  | .normalize => .op
  | .snapshot => .op
  | .maybeSend => .op
  | .cmdPoll => .op
  | .cmdWait => .op
  | .cmdDiscard _ => .rxfHead
  | .cmdDecode => .rxfHead
  | .loopStep => .op
  | .txf _ _ _ _ => .txf
  | .rxf _ _ => .rxf

/-- The 8 bits of a table word from bit `k` up. -/
def tableByte (w k : Nat) : Byte := BitVec.ofNat 8 (w / 2 ^ k)

/-- The transition word of a table word of one or two bytes: R48 gives it 4 bits. The table's reader gave the rows
QD.REV.01-11 and QD.REV.11-10 one further bit (11 and 10, made from the name of the phase after the TICK), which
no rule gives a transition word; it is ignored there, and every other bit above bit 3 must be 0 (log entry 14). -/
def tableTransWord (w : Nat) : Option TransWord :=
  if w < 16 then some (BitVec.ofNat 4 w)
  else if w = 7 + 2 ^ 11 then some 0b0111#4
  else if w = 14 + 2 ^ 10 then some 0b1110#4
  else none

/-- The instruction read from a word of the opcode table. The table does not say which format a number is in; its
width and its sync byte do: 8 bits are a transition word (below 16), the outbound sync 0xAA (a TXF whose payload
bytes are 0), or a head byte; 16 bits are a transition word; 24 bits an inbound frame and 40 bits an outbound
frame, numbered as the table numbers RXF, the first byte of the wire highest. A transition word is read as one of
encoder 0: the word holds no encoder (log entry 14). -/
def decodeTableWord (nbits w : Nat) : Option Instr :=
  if nbits = 8 ∨ nbits = 4 then
    match tableTransWord w with
    | some t => (decode (.trans .cart t)).toOption
    | none =>
      if 256 ≤ w then none
      else if tableByte w 0 = Config.txSync then (decode (.outbound [Config.txSync, 0#8, 0#8, 0#8, 0#8])).toOption
      else (decode (.head (tableByte w 0))).toOption
  else if nbits = 16 ∨ nbits = 12 then
    match tableTransWord w with
    | some t => (decode (.trans .cart t)).toOption
    | none => none
  else if nbits = 24 then
    if 2 ^ 24 ≤ w then none
    else (decode (.inbound [tableByte w 16, tableByte w 8, tableByte w 0])).toOption
  else if nbits = 40 then
    if 2 ^ 40 ≤ w then none
    else
      (decode (.outbound [tableByte w 32, tableByte w 24, tableByte w 16, tableByte w 8, tableByte w 0])).toOption
  else none

end Sys2Proof
end

