-- ==== Sys2Proof/Machine/State.lean ====
section
/-! DEFINITION. The state of MIP-QDSP as plain data (R15), its field updates, its reset state, and the reasons a
step can stop. -/

namespace Sys2Proof.Machine

/-- The state of one Quadrature Decoder (R16, R17, R18, R19). -/
structure EncoderState where
  /-- `enc[e].steps` (R18); with `LATCH_DIV` = 1 also `enc[e].position`, one register with two names. -/
  steps : Count
  /-- The separate position register of `LATCH_DIV` = 4 (R18, R65); with `LATCH_DIV` = 1 nothing reads or writes
  it (log entry 20). -/
  latched : Count
  /-- `enc[e].phase`, the latch phase (R19). -/
  phase : PinWord
deriving DecidableEq, Repr

/-- A telemetry snapshot (R22): the cart position at full width and the normalized angle. -/
structure Snapshot where
  cart : Count
  angle : Nat
deriving DecidableEq, Repr

/-- The Control Loop's registers (R23, R24). -/
structure LoopRegs where
  /-- `loop.phase`, the block's only program counter (R23). -/
  phase : LoopPhase
  /-- `loop.cart` (R24). -/
  cart : Count
  /-- `loop.angle_raw` (R24). -/
  angleRaw : Count
deriving DecidableEq, Repr

/-- The value an operation returns to its caller (R71, R73, R78): the MODEL's own (log entry 8). -/
inductive OpValue where
  | none
  | position (c : Count)
  | angle (n : Nat)
  | snapshot (t : Snapshot)
deriving DecidableEq, Repr

/-- The state: the spec's (R15), the observation of a run (R15), the input levels that ENV owns (R29), the
parameters of the built block (R7), and three fields of the model's own. -/
structure State where
  /-- The parameters of R7; no operation writes them (R30). -/
  cfg : Params
  /-- The phase-pin levels, owned by ENV (R29). -/
  pins : PerEncoder PinWord
  /-- `enc[e]` (R16). -/
  enc : PerEncoder EncoderState
  /-- `irq[e]`, the pending flags (R21). -/
  irq : PerEncoder Bool
  /-- `gate.last_sent` (R22). -/
  lastSent : Option Snapshot
  /-- `loop.*` (R23, R24). -/
  loop : LoopRegs
  /-- `out.led` (R25). -/
  led : Bool
  /-- The level history of `out.led` (R15): its level at reset, then its level after each change. -/
  ledHistory : List Bool
  /-- The input buffer, head first (R28). -/
  rx : List Byte
  /-- The outbound byte log, first on the wire first (R27). -/
  tx : List Byte
  /-- The motor command log, oldest first (R26). -/
  motor : List Int
  /-- MODEL's own: the turns that come next (R61, R98; log entry 1). -/
  script : List Turn
  /-- MODEL's own: how many free turns were taken (log entry 1). -/
  turns : Nat
  /-- MODEL's own: what GET_POSITION, NORMALIZE or SNAPSHOT last returned (log entry 8). -/
  ret : OpValue
deriving DecidableEq, Repr

/-- Why a step can stop with a fault. -/
inductive Fault where
  /-- RxRead on an empty buffer, raised by `rxRead`. R12: "defined only when RxAvail() >= 1". SAFE: the model
  stops where the spec gives no value; CMD_POLL never reaches it (R86; log entry 13). -/
  | rxUnderflow
deriving DecidableEq, Repr

/-- Why a step can have no meaning. -/
inductive Refusal where
  /-- Raised by an arm of `exec` whose instruction has no meaning yet; no arm is so. SAFE: nothing is claimed. -/
  | notModelled (mnemonic : String)
deriving DecidableEq, Repr

namespace State

def setPins (s : State) (e : Encoder) (p : PinWord) : State := { s with pins := s.pins.set e p }
def setEnc (s : State) (e : Encoder) (v : EncoderState) : State := { s with enc := s.enc.set e v }
def setIrq (s : State) (e : Encoder) (b : Bool) : State := { s with irq := s.irq.set e b }
def setLastSent (s : State) (o : Option Snapshot) : State := { s with lastSent := o }
def setLoopPhase (s : State) (p : LoopPhase) : State := { s with loop := { s.loop with phase := p } }
def setLoopCart (s : State) (c : Count) : State := { s with loop := { s.loop with cart := c } }
def setLoopAngleRaw (s : State) (c : Count) : State := { s with loop := { s.loop with angleRaw := c } }
def setLed (s : State) (b : Bool) : State := { s with led := b }
def setLedHistory (s : State) (l : List Bool) : State := { s with ledHistory := l }
def setRx (s : State) (l : List Byte) : State := { s with rx := l }
def setTx (s : State) (l : List Byte) : State := { s with tx := l }
def setMotor (s : State) (l : List Int) : State := { s with motor := l }
def setScript (s : State) (l : List Turn) : State := { s with script := l }
def setTurns (s : State) (n : Nat) : State := { s with turns := n }
def setRet (s : State) (v : OpValue) : State := { s with ret := v }

/-- The machine right after power-on (R117, R118) of the default block, with both pin words at 00. DESIGN CHOICE,
as R118 gives no value: `loop.cart` and `loop.angleRaw` 0 (log entry 6), the pin levels (log entry 7), the model's
own fields (log entries 1 and 8). -/
def reset : State where
  cfg := Config.defaultParams
  pins := { cart := 0b00#2, angle := 0b00#2 }
  enc := { cart := { steps := 0, latched := 0, phase := 0b00#2 }, angle := { steps := 0, latched := 0, phase := 0b00#2 } }
  irq := { cart := false, angle := false }
  lastSent := none
  loop := { phase := .l0, cart := 0, angleRaw := 0 }
  led := false
  ledHistory := [false]
  rx := []
  tx := []
  motor := []
  script := []
  turns := 0
  ret := .none

end State

end Sys2Proof.Machine
end

