-- ==== Sys2Proof/Machine/Operands.lean ====
section
/-! DEFINITION. How operands are formed: the pin word, the transition word and its gray-code delta, the position
that a name denotes, the fields of the frames, the normalized angle, the snapshot. -/

namespace Sys2Proof.Machine

/-- `PinRead(e)` (R12, R47): the pin word of encoder `e` at this instant, a clean level for each pin (R29). -/
def pinRead (s : State) (e : Encoder) : PinWord := s.pins.get e

/-- The transition word `(old << 2) | new` (R48). -/
def transWord (old new : PinWord) : TransWord := old ++ new

/-- The transition word that a TICK of QD[e] forms in this state (R48, R64). -/
def tickWord (s : State) (e : Encoder) : TransWord := transWord (s.enc.get e).phase (pinRead s e)

/-- The latch phase of a transition word, bits 3:2 (R48). -/
def oldPins (w : TransWord) : PinWord := w.extractLsb' 2 2

/-- The pin word of a transition word, bits 1:0 (R48). -/
def newPins (w : TransWord) : PinWord := w.extractLsb' 0 2

/-- The gray index of R49: the place of a pin word in the forward cycle 00, 10, 11, 01. -/
def gray (p : PinWord) : Nat :=
  match p.toNat with
  | 0 => 0
  | 2 => 1
  | 3 => 2
  | _ => 3

/-- `d = (g(new) - g(old)) mod 4` (R50). -/
def grayStep (w : TransWord) : Nat := (gray (newPins w) + 4 - gray (oldPins w)) % 4

/-- The position a counter name denotes (R17, R18): with `LATCH_DIV` = 1 `position` is `steps`, with 4 it is the
register reloaded at `LATCH_PHASE`. -/
def position (s : State) (e : Encoder) : Count :=
  match s.cfg.latchDiv with
  | .one => (s.enc.get e).steps
  | .four => (s.enc.get e).latched

/-- `low16(v)` of R10 as a 16-bit pattern. -/
def low16 (c : Count) : Half := c.setWidth 16

/-- Bits 7:0 of a field, the byte at the lower offset (R32). -/
def byteLo (h : Half) : Byte := h.extractLsb' 0 8

/-- Bits 15:8 of a field, the byte at the higher offset (R32). -/
def byteHi (h : Half) : Byte := h.extractLsb' 8 8

/-- The 16-bit field of two bytes, little-endian (R32). -/
def halfOf (lo hi : Byte) : Half := hi ++ lo

/-- The five bytes of an outbound frame in wire order (R52). -/
def txfBytes (a aHi b bHi : Byte) : List Byte := [Config.txSync, a, aHi, b, bHi]

/-- Field A of a snapshot's frame (R53). -/
def fieldA (t : Snapshot) : Half := low16 t.cart

/-- Field B of a snapshot's frame (R54). -/
def fieldB (t : Snapshot) : Half := BitVec.ofNat 16 t.angle

/-- The frame of a snapshot (R52, R53, R54, R80). -/
def txFrame (t : Snapshot) : List Byte :=
  txfBytes (byteLo (fieldA t)) (byteHi (fieldA t)) (byteLo (fieldB t)) (byteHi (fieldB t))

/-- The motor speed of two payload bytes (R57): `sext_16((b2 << 8) | b1)`. -/
def speedOf (b1 b2 : Byte) : Int := (halfOf b1 b2).toInt

/-- How the host reads field A (R55): signed when `FIELD_A_SIGNED`, else unsigned. -/
def hostFieldA (signed : Bool) (a aHi : Byte) : Int :=
  if signed then (halfOf a aHi).toInt else ((halfOf a aHi).toNat : Int)

/-- How the host reads field B (R55): unsigned. -/
def hostFieldB (b bHi : Byte) : Nat := (halfOf b bHi).toNat

/-- NORMALIZE (R73): the floored modulo, in `[0, MODULUS)`. (`%` on Int is the floored modulo for a positive
divisor, R10.) -/
def normalizeAngle (raw : Int) : Nat := (raw % (Config.modulus : Int)).toNat

/-- The snapshot of the two samples (R78): the cart at full width, the angle normalized. -/
def snapshotOf (s : State) : Snapshot :=
  { cart := s.loop.cart, angle := normalizeAngle s.loop.angleRaw.toInt }

/-- `RxAvail()` (R12). -/
def rxAvail (s : State) : Nat := s.rx.length

end Sys2Proof.Machine
end

