-- ==== Sys2Proof/Machine/Flags.lean ====
section
/-! DEFINITION. The block has no condition flags (R30). This file holds its one-bit and few-valued conditions: the
class and delta of a transition word (R50, R51), the change gate (R79), the indicator level (R90), the
overflow condition of the input buffer (R28). -/

namespace Sys2Proof.Machine

/-- The classes of R51. -/
inductive TransClass where
  | null
  | fwd
  | rev
  | invalid
deriving DecidableEq, Repr

/-- The class of a transition word (R50, R51). -/
def transClass (w : TransWord) : TransClass :=
  match grayStep w with
  | 0 => .null
  | 1 => .fwd
  | 3 => .rev
  | _ => .invalid

/-- The change of `steps` that a class makes (R50). -/
def classDelta : TransClass → Int
  | .null => 0
  | .fwd => 1
  | .rev => -1
  | .invalid => 0

/-- `delta(w)` (R50). -/
def delta (w : TransWord) : Int := classDelta (transClass w)

/-- The change gate (R79): the snapshot fields are compared at full width, and the first snapshot after a reset to
`NONE` always counts as changed. -/
def changed (lastSent : Option Snapshot) (t : Snapshot) : Bool :=
  match lastSent with
  | none => true
  | some u => u.cart != t.cart || u.angle != t.angle

/-- The indicator level of a decoded speed (R90). -/
def ledLevel (speed : Int) : Bool := speed != 0

/-- Whether `rx` has room for one more byte (R28). -/
def rxHasRoom (s : State) : Bool := decide (rxAvail s < s.cfg.rxCapacity)

/-- Whether the position register of `LATCH_DIV` = 4 is reloaded by a TICK that reads `new` (R65). -/
def reloads (p : Params) (new : PinWord) : Bool :=
  match p.latchDiv with
  | .one => false
  | .four => new == p.latchPhase

end Sys2Proof.Machine
end

