-- ==== Sys2Proof/Machine/Ops.lean ====
section
/-! DEFINITION. The shared operations: interrupt entry and return (the block's only "exception", R101, R109, R110),
the latch update of a TICK, the primitives of R12, the outcomes of the Command Decoder, and the steps of HOST_RX,
ENV and power. -/

namespace Sys2Proof.Machine

/-- Goes on with the next state's value, or stops as `o` stops. -/
def andThen {α β : Type} (o : Host.Outcome α Fault Refusal) (f : α → Host.Outcome β Fault Refusal) :
    Host.Outcome β Fault Refusal :=
  match o with
  | .next a => f a
  | .fault r => .fault r
  | .refused r => .refused r

/-- Interrupt entry (R106, R109): the pending flag of encoder `e` is cleared. Nothing is saved, no mode changes
(R112), there is no vector (R39); the handler is TICK of QD[e] (R104). -/
def enterInterrupt (e : Encoder) (s : State) : State := s.setIrq e false

/-- Interrupt return (R110): nothing was saved or disabled, so nothing is restored or re-enabled. -/
def returnFromInterrupt (s : State) : State := s

/-- The encoder state after a transition of `d` counts to the pin word `new` (R64, R65, R72): `steps` wraps at
`POS_WIDTH` bits, and with `LATCH_DIV` = 4 the position register is reloaded with `steps asr 2` at `LATCH_PHASE`. -/
def advanceEncoder (p : Params) (d : Int) (new : PinWord) (v : EncoderState) : EncoderState :=
  let steps := v.steps + BitVec.ofInt 32 d
  { steps := steps
    latched := if reloads p new then steps.sshiftRight 2 else v.latched
    phase := new }

/-- One pin-change interrupt of encoder `e` whose transition is of `d` counts to `new` (R64, R109, R110): entry,
the latch update, return; one atomic step (R36, R66). -/
def serviceTick (e : Encoder) (d : Int) (new : PinWord) (s : State) : State :=
  let entered := enterInterrupt e s
  returnFromInterrupt (entered.setEnc e (advanceEncoder s.cfg d new (s.enc.get e)))

/-- `RxRead()` (R12, R37): removes and returns the head byte of `rx`; undefined on an empty buffer, where the
model faults (log entry 13). -/
def rxRead (s : State) : Host.Outcome (Byte × State) Fault Refusal :=
  match s.rx with
  | [] => .fault .rxUnderflow
  | b :: rest => .next (b, s.setRx rest)

/-- `TxWrite(bytes)` (R12, R27, R81): the stream accepts every write. -/
def txWrite (bytes : List Byte) (s : State) : State := s.setTx (s.tx ++ bytes)

/-- `MotorSetSpeed(v)` (R12, R26): one more event, unclamped (R93). -/
def motorSetSpeed (v : Int) (s : State) : State := s.setMotor (s.motor ++ [v])

/-- `LedWrite(b)` (R12, R25): the level, and in its history a new entry when the level changes (R15). -/
def ledWrite (b : Bool) (s : State) : State :=
  (s.setLed b).setLedHistory (if s.led = b then s.ledHistory else s.ledHistory ++ [b])

/-- MAYBE_SEND of a snapshot (R80): one frame and the new `last_sent` when the snapshot changed, else nothing. -/
def maybeSend (t : Snapshot) (s : State) : State :=
  if changed s.lastSent t then (txWrite (txFrame t) s).setLastSent (some t) else s

/-- CMD_WAIT (R87): nothing. -/
def waitForBytes (s : State) : State := s

/-- CMD_DISCARD after its byte was removed (R88): the byte is dropped, nothing else is read. -/
def dropByte (_b0 : Byte) (s : State) : State := s

/-- The effect of a decoded speed (R89, R90). -/
def applySpeed (speed : Int) (s : State) : State := ledWrite (ledLevel speed) (motorSetSpeed speed s)

/-- CMD_DECODE after the sync byte was removed (R89): two more bytes are read, and their speed is applied. -/
def decodeSpeed (s : State) : Host.Outcome State Fault Refusal :=
  andThen (rxRead s) fun r1 => andThen (rxRead r1.2) fun r2 => .next (applySpeed (speedOf r1.1 r2.1) r2.2)

/-- CMD_POLL (R86). -/
def pollCommand (s : State) : Host.Outcome State Fault Refusal :=
  if rxAvail s < Config.rxFrameLen then .next (waitForBytes s)
  else andThen (rxRead s) fun r =>
    if r.1 ≠ Config.rxSync then .next (dropByte r.1 r.2) else decodeSpeed r.2

/-- One step of HOST_RX (R28): the byte is appended at the tail, or lost when the buffer is full. -/
def hostDeliver (b : Byte) (s : State) : State := if rxHasRoom s then s.setRx (s.rx ++ [b]) else s

/-- One step of ENV (R21, R29, R61 `PINS`): the pins of encoder `e` go to `p`; a change of either pin sets
`irq[e]`, whichever of the two sources it is (R104). -/
def envSetPins (e : Encoder) (p : PinWord) (s : State) : State :=
  if s.pins.get e = p then s else (s.setPins e p).setIrq e true

/-- The encoder state of a reset that samples the pin word `p` (R117). -/
def resetEncoder (p : PinWord) : EncoderState := { steps := 0, latched := 0, phase := p }

/-- The reset value of the change gate (R22, R117). -/
def resetLastSent (i : LastSentInit) : Option Snapshot :=
  match i with
  | .none => none
  | .zero => some { cart := 0, angle := 0 }

/-- The reset procedure with the pins at `p0` and `p1` (R117, R118): everything but the built block's parameters
(R7) and the model's own `script` and `turns`. `loop.cart` and `loop.angleRaw`, which R118 leaves unspecified, go
to 0 as in `State.reset` (log entry 6). -/
def powerOn (p0 p1 : PinWord) (s : State) : State :=
  { cfg := s.cfg
    pins := { cart := p0, angle := p1 }
    enc := { cart := resetEncoder p0, angle := resetEncoder p1 }
    irq := { cart := false, angle := false }
    lastSent := resetLastSent s.cfg.lastSentInit
    loop := { phase := .l0, cart := 0, angleRaw := 0 }
    led := false
    ledHistory := [false]
    rx := []
    tx := []
    motor := []
    script := s.script
    turns := s.turns
    ret := .none }

/-- The turn that comes next, and the state that has given it out: the head of the script, else a free value
(R98, R107; log entry 1). -/
def nextTurn (s : State) : Turn × State :=
  match s.script with
  | t :: rest => (t, s.setScript rest)
  | [] => (Config.freeTurn s.turns, s.setTurns (s.turns + 1))

end Sys2Proof.Machine
end

