-- ==== Sys2Proof/Machine/CommandDecoder.lean ====
section
/-! DEFINITION. The Command Decoder (43_command_decoder): CMD_POLL, its three outcomes, and the inbound frame RXF.
Each outcome is the whole of it, from the buffer as CMD_POLL finds it: "State written" of R88 and R89 counts the
head byte (log entry 10). -/

namespace Sys2Proof.Machine

/-- CMD_POLL (R86). -/
def execCmdPoll (s : State) : Host.Outcome State Fault Refusal := pollCommand s

/-- CMD_WAIT (R87). -/
def execCmdWait (s : State) : Host.Outcome State Fault Refusal := .next (waitForBytes s)

/-- CMD_DISCARD(b0) (R88): the head byte leaves the buffer and is dropped. -/
def execCmdDiscard (b0 : Byte) (s : State) : Host.Outcome State Fault Refusal :=
  andThen (rxRead s) fun r => .next (dropByte b0 r.2)

/-- CMD_DECODE (R89): the sync byte leaves the buffer, the next two bytes are read and their speed applied. -/
def execCmdDecode (s : State) : Host.Outcome State Fault Refusal :=
  andThen (rxRead s) fun r => decodeSpeed r.2

/-- RXF (R56): the inbound frame with payload `lo`, `hi`, consumed by CMD_DECODE (R89): its three bytes leave the
buffer and its speed (R57) is applied. -/
def execRxf (lo hi : Byte) (s : State) : Host.Outcome State Fault Refusal :=
  andThen (rxRead s) fun r0 => andThen (rxRead r0.2) fun r1 => andThen (rxRead r1.2) fun r2 =>
    .next (applySpeed (speedOf lo hi) r2.2)

end Sys2Proof.Machine
end

