-- ==== Sys2Proof/Machine/ControlLoop.lean ====
section
/-! DEFINITION. The Control Loop (44_control_loop): LOOP_STEP. -/

namespace Sys2Proof.Machine

/-- LOOP_STEP (R95): sample cart, sample angle, report, receive, each one atomic step, and round again (R23). The
values of GET_POSITION and SNAPSHOT live within the step (R15): `ret` is not touched. -/
def execLoopStep (s : State) : Host.Outcome State Fault Refusal :=
  match s.loop.phase with
  | .l0 => .next ((s.setLoopCart (position s .cart)).setLoopPhase .l1)
  | .l1 => .next ((s.setLoopAngleRaw (position s .angle)).setLoopPhase .l2)
  | .l2 => .next ((maybeSend (snapshotOf s) s).setLoopPhase .l3)
  | .l3 => andThen (pollCommand s) fun t => .next (t.setLoopPhase .l0)

end Sys2Proof.Machine
end

