-- ==== Sys2Proof/Machine/QuadratureDecoder.lean ====
section
/-! DEFINITION. The Quadrature Decoder family (40_quadrature_decoder): the 16 transition words, TICK and
GET_POSITION. The delta and the phase of each transition row are the opcode table's (R50), written out; TICK
computes its own from the gray index (R49, R50). -/

namespace Sys2Proof.Machine

/-- Transition word 0, QD.NULL.00-00 (R50, R64): neither pin changed. -/
def execQdNull00to00 (e : Encoder) (s : State) : Host.Outcome State Fault Refusal :=
  .next (serviceTick e 0 0b00#2 s)

/-- Transition word 1, QD.REV.00-01 (R50, R64): one pin changed, reverse. -/
def execQdRev00to01 (e : Encoder) (s : State) : Host.Outcome State Fault Refusal :=
  .next (serviceTick e (-1) 0b01#2 s)

/-- Transition word 2, QD.FWD.00-10 (R50, R64): one pin changed, forward. -/
def execQdFwd00to10 (e : Encoder) (s : State) : Host.Outcome State Fault Refusal :=
  .next (serviceTick e 1 0b10#2 s)

/-- Transition word 3, QD.INVALID.00-11 (R50, R64): both pins changed: no count, and the phase follows the pins. -/
def execQdInvalid00to11 (e : Encoder) (s : State) : Host.Outcome State Fault Refusal :=
  .next (serviceTick e 0 0b11#2 s)

/-- Transition word 4, QD.FWD.01-00 (R50, R64): one pin changed, forward. -/
def execQdFwd01to00 (e : Encoder) (s : State) : Host.Outcome State Fault Refusal :=
  .next (serviceTick e 1 0b00#2 s)

/-- Transition word 5, QD.NULL.01-01 (R50, R64): neither pin changed. -/
def execQdNull01to01 (e : Encoder) (s : State) : Host.Outcome State Fault Refusal :=
  .next (serviceTick e 0 0b01#2 s)

/-- Transition word 6, QD.INVALID.01-10 (R50, R64): both pins changed: no count, and the phase follows the pins. -/
def execQdInvalid01to10 (e : Encoder) (s : State) : Host.Outcome State Fault Refusal :=
  .next (serviceTick e 0 0b10#2 s)

/-- Transition word 7, QD.REV.01-11 (R50, R64): one pin changed, reverse. -/
def execQdRev01to11 (e : Encoder) (s : State) : Host.Outcome State Fault Refusal :=
  .next (serviceTick e (-1) 0b11#2 s)

/-- Transition word 8, QD.REV.10-00 (R50, R64): one pin changed, reverse. -/
def execQdRev10to00 (e : Encoder) (s : State) : Host.Outcome State Fault Refusal :=
  .next (serviceTick e (-1) 0b00#2 s)

/-- Transition word 9, QD.INVALID.10-01 (R50, R64): both pins changed: no count, and the phase follows the pins. -/
def execQdInvalid10to01 (e : Encoder) (s : State) : Host.Outcome State Fault Refusal :=
  .next (serviceTick e 0 0b01#2 s)

/-- Transition word 10, QD.NULL.10-10 (R50, R64): neither pin changed. -/
def execQdNull10to10 (e : Encoder) (s : State) : Host.Outcome State Fault Refusal :=
  .next (serviceTick e 0 0b10#2 s)

/-- Transition word 11, QD.FWD.10-11 (R50, R64): one pin changed, forward. -/
def execQdFwd10to11 (e : Encoder) (s : State) : Host.Outcome State Fault Refusal :=
  .next (serviceTick e 1 0b11#2 s)

/-- Transition word 12, QD.INVALID.11-00 (R50, R64): both pins changed: no count, and the phase follows the pins. -/
def execQdInvalid11to00 (e : Encoder) (s : State) : Host.Outcome State Fault Refusal :=
  .next (serviceTick e 0 0b00#2 s)

/-- Transition word 13, QD.FWD.11-01 (R50, R64): one pin changed, forward. -/
def execQdFwd11to01 (e : Encoder) (s : State) : Host.Outcome State Fault Refusal :=
  .next (serviceTick e 1 0b01#2 s)

/-- Transition word 14, QD.REV.11-10 (R50, R64): one pin changed, reverse. -/
def execQdRev11to10 (e : Encoder) (s : State) : Host.Outcome State Fault Refusal :=
  .next (serviceTick e (-1) 0b10#2 s)

/-- Transition word 15, QD.NULL.11-11 (R50, R64): neither pin changed. -/
def execQdNull11to11 (e : Encoder) (s : State) : Host.Outcome State Fault Refusal :=
  .next (serviceTick e 0 0b11#2 s)

/-- TICK of QD[e] (R64, R65): the pins are read once, the transition word formed and its delta counted. -/
def execTick (e : Encoder) (s : State) : Host.Outcome State Fault Refusal :=
  .next (serviceTick e (delta (tickWord s e)) (pinRead s e) s)

/-- GET_POSITION(e) (R71): returns the position, an atomic read (R35), and writes no state of the block. -/
def execGetPosition (e : Encoder) (s : State) : Host.Outcome State Fault Refusal :=
  .next (s.setRet (.position (position s e)))

end Sys2Proof.Machine
end

