-- ==== Sys2Proof/Machine/Telemetry.lean ====
section
/-! DEFINITION. The Angle Normalizer (41_angle_normalizer) and the Telemetry Encoder (42_telemetry_encoder):
NORMALIZE, SNAPSHOT, MAYBE_SEND and the outbound frame TXF. -/

namespace Sys2Proof.Machine

/-- NORMALIZE (R73, R76): returns `loop.angle_raw` modulo `MODULUS`; nothing is written back. -/
def execNormalize (s : State) : Host.Outcome State Fault Refusal :=
  .next (s.setRet (.angle (normalizeAngle s.loop.angleRaw.toInt)))

/-- SNAPSHOT (R78): returns the snapshot of the two samples and writes no state of the block. -/
def execSnapshot (s : State) : Host.Outcome State Fault Refusal :=
  .next (s.setRet (.snapshot (snapshotOf s)))

/-- MAYBE_SEND (R80), on the snapshot that R78 makes of this state's samples. -/
def execMaybeSend (s : State) : Host.Outcome State Fault Refusal :=
  .next (maybeSend (snapshotOf s) s)

/-- TXF (R52): the outbound frame, handed to the outbound stream by one `TxWrite` (R82). The change gate is
MAYBE_SEND's alone (R22). -/
def execTxf (a aHi b bHi : Byte) (s : State) : Host.Outcome State Fault Refusal :=
  .next (txWrite (txfBytes a aHi b bHi) s)

end Sys2Proof.Machine
end

