-- ==== Sys2Proof/Machine/Dispatch.lean ====
section
/-! DEFINITION. The meaning of every instruction, one arm each. -/

namespace Sys2Proof.Machine

def exec (i : Instr) (s : State) : Host.Outcome State Fault Refusal :=
  match i with
  | .qdNull00to00 e => Sys2Proof.Machine.execQdNull00to00 e s
  | .qdRev00to01 e => Sys2Proof.Machine.execQdRev00to01 e s
  | .qdFwd00to10 e => Sys2Proof.Machine.execQdFwd00to10 e s
  | .qdInvalid00to11 e => Sys2Proof.Machine.execQdInvalid00to11 e s
  | .qdFwd01to00 e => Sys2Proof.Machine.execQdFwd01to00 e s
  | .qdNull01to01 e => Sys2Proof.Machine.execQdNull01to01 e s
  | .qdInvalid01to10 e => Sys2Proof.Machine.execQdInvalid01to10 e s
  | .qdRev01to11 e => Sys2Proof.Machine.execQdRev01to11 e s
  | .qdRev10to00 e => Sys2Proof.Machine.execQdRev10to00 e s
  | .qdInvalid10to01 e => Sys2Proof.Machine.execQdInvalid10to01 e s
  | .qdNull10to10 e => Sys2Proof.Machine.execQdNull10to10 e s
  | .qdFwd10to11 e => Sys2Proof.Machine.execQdFwd10to11 e s
  | .qdInvalid11to00 e => Sys2Proof.Machine.execQdInvalid11to00 e s
  | .qdFwd11to01 e => Sys2Proof.Machine.execQdFwd11to01 e s
  | .qdRev11to10 e => Sys2Proof.Machine.execQdRev11to10 e s
  | .qdNull11to11 e => Sys2Proof.Machine.execQdNull11to11 e s
  | .tick e => Sys2Proof.Machine.execTick e s
  | .getPosition e => Sys2Proof.Machine.execGetPosition e s
  | .normalize => Sys2Proof.Machine.execNormalize s
  | .snapshot => Sys2Proof.Machine.execSnapshot s
  | .maybeSend => Sys2Proof.Machine.execMaybeSend s
  | .cmdPoll => Sys2Proof.Machine.execCmdPoll s
  | .cmdWait => Sys2Proof.Machine.execCmdWait s
  | .cmdDiscard b0 => Sys2Proof.Machine.execCmdDiscard b0 s
  | .cmdDecode => Sys2Proof.Machine.execCmdDecode s
  | .loopStep => Sys2Proof.Machine.execLoopStep s
  | .txf a aHi b bHi => Sys2Proof.Machine.execTxf a aHi b bHi s
  | .rxf lo hi => Sys2Proof.Machine.execRxf lo hi s

end Sys2Proof.Machine
end

