-- ==== Sys2Proof/Machine/Turns.lean ====
section
/-! DEFINITION. What one turn of an agent does (R6, R98), how a turn of an interrupt handler or of MAIN comes to an
instruction, runs of given turns, and how a word is placed where the next step finds it. -/

namespace Sys2Proof.Machine

/-- The instruction a turn runs: an interrupt handler forms its transition word and decodes it (R48, R64), MAIN
runs LOOP_STEP (R60, R95); the other agents run none. -/
def fetchInstr (t : Turn) (s : State) : Option Instr :=
  match t with
  | .main => some mainOperation
  | .tick e => some (decodeTrans e (tickWord s e))
  | .deliver _ => none
  | .setPins _ _ => none
  | .powerOn _ _ => none

/-- One turn, one atomic step (R66, R98). -/
def runTurn (t : Turn) (s : State) : Host.Outcome State Fault Refusal :=
  match t with
  | .main => exec mainOperation s
  | .tick e => exec (decodeTrans e (tickWord s e)) s
  | .deliver b => .next (hostDeliver b s)
  | .setPins e p => .next (envSetPins e p s)
  | .powerOn p0 p1 => .next (powerOn p0 p1 s)

/-- Given turns one after the other: one interleaving (R40, R61, R98). -/
def runTurns : List Turn → State → Host.Outcome State Fault Refusal
  | [], s => .next s
  | t :: ts, s => andThen (runTurn t s) (runTurns ts)

/-- `s` with the first bytes of `rx` replaced by `bytes`, at the loop phase that examines them, and MAIN next. -/
def placeInbound (bytes : List Byte) (s : State) : State :=
  ((s.setRx (bytes ++ s.rx.drop bytes.length)).setLoopPhase .l3).setScript (.main :: s.script)

/-- `s` ready to send the frame of fields A and B at its next step: the samples that make it, an empty gate, the
loop phase that reports, and MAIN next. -/
def placeOutbound (a aHi b bHi : Byte) (s : State) : State :=
  ((((s.setLoopCart ((halfOf a aHi).setWidth 32)).setLoopAngleRaw ((halfOf b bHi).setWidth 32)).setLastSent
    none).setLoopPhase .l2).setScript (.main :: s.script)

/-- `s` with the transition word `w` where the next TICK of QD[e] forms it (R48), and QD[e] next. -/
def placeTrans (e : Encoder) (w : TransWord) (s : State) : State :=
  let v := s.enc.get e
  ((s.setEnc e { v with phase := oldPins w }).setPins e (newPins w)).setScript (.tick e :: s.script)

/-- `s` with the word of an instruction where the next step finds it. A head byte stands before two zero bytes,
so that three wait (R86). -/
def placeInstr (i : Instr) (s : State) : State :=
  match encode i with
  | some (.trans e w) => placeTrans e w s
  | some (.head b) => placeInbound [b, 0#8, 0#8] s
  | some (.inbound bytes) => placeInbound bytes s
  | some (.outbound [_, a, aHi, b, bHi]) => placeOutbound a aHi b bHi s
  | some (.outbound _) => s
  | none => s

/-- `s` with an opcode-table word where the next step finds it; unchanged where the decoder refuses the word. -/
def placeTableWord (s : State) (nbits w : Nat) : State :=
  match decodeTableWord nbits w with
  | some i => placeInstr i s
  | none => s

end Sys2Proof.Machine
end

