-- ==== Sys2Proof/Machine/Step.lean ====
section
/-! DEFINITION. One step of the machine: the next turn, run as one atomic step. -/

namespace Sys2Proof.Machine

/-- One atomic step of one agent (R6, R40, R98). -/
def step (s : State) : Host.Outcome State Fault Refusal := runTurn (nextTurn s).1 (nextTurn s).2

/-- `s` with the instruction of an opcode-table word stored where `step` finds its next instruction: a transition
word in the latch phase and the pins of encoder 0 with its interrupt next, a head byte or an inbound frame at the
head of `rx` with MAIN next at L3, an outbound frame as the samples that make it with MAIN next at L2 (log entry
2). -/
def State.withFetchWord (s : State) (nbits w : Nat) : State := placeTableWord s nbits w

end Sys2Proof.Machine
end

