-- ==== Sys2Proof/Machine/Stimulus.lean ====
section
/-! DEFINITION. The stimulus-script notation of R61 and R62: a testbench language whose lines stand for turns. -/

namespace Sys2Proof.Machine

/-- One place forward in the cycle of R49: 00, 10, 11, 01 (R62). -/
def nextPins (p : PinWord) : PinWord :=
  match p.toNat with
  | 0 => 0b10#2
  | 2 => 0b11#2
  | 3 => 0b01#2
  | _ => 0b00#2

/-- One place backward in the cycle of R49 (R62). -/
def prevPins (p : PinWord) : PinWord :=
  match p.toNat with
  | 0 => 0b01#2
  | 1 => 0b11#2
  | 3 => 0b10#2
  | _ => 0b00#2

/-- A line of a stimulus script (R61, R62). -/
inductive StimLine where
  | reset (p0 p1 : PinWord)
  | pins (e : Encoder) (p : PinWord)
  | tick (e : Encoder)
  | move (e : Encoder) (p : PinWord)
  | rx (bytes : List Byte)
  | step
  | iter
  | fwd (e : Encoder) (n : Nat)
  | rev (e : Encoder) (n : Nat)
  | bounce (e : Encoder)
  | jump (e : Encoder)
  | cmd (v : Int)
deriving DecidableEq, Repr

/-- `MOVE e p` (R61): the pins change and their interrupt is serviced. -/
def moveTurns (e : Encoder) (p : PinWord) : List Turn := [.setPins e p, .tick e]

/-- `FWD e n` from the pin word `p` (R62). -/
def fwdTurns (e : Encoder) : Nat → PinWord → List Turn
  | 0, _ => []
  | n + 1, p => moveTurns e (nextPins p) ++ fwdTurns e n (nextPins p)

/-- `REV e n` from the pin word `p` (R62). -/
def revTurns (e : Encoder) : Nat → PinWord → List Turn
  | 0, _ => []
  | n + 1, p => moveTurns e (prevPins p) ++ revTurns e n (prevPins p)

/-- How many MAIN steps bring the loop round to L0 again (R61 `ITER`). -/
def stepsToL0 : LoopPhase → Nat
  | .l0 => 4
  | .l1 => 3
  | .l2 => 2
  | .l3 => 1

/-- The inbound frame that commands the speed `v` (R62 `CMD`). -/
def commandBytes (v : Int) : List Byte :=
  [Config.rxSync, byteLo (BitVec.ofInt 16 v), byteHi (BitVec.ofInt 16 v)]

/-- The turns a line stands for in state `s` (R61, R62): `p` of R62 is the current pin word. -/
def lineTurns (l : StimLine) (s : State) : List Turn :=
  match l with
  | .reset p0 p1 => [.powerOn p0 p1]
  | .pins e p => [.setPins e p]
  | .tick e => [.tick e]
  | .move e p => moveTurns e p
  | .rx bytes => bytes.map .deliver
  | .step => [.main]
  | .iter => List.replicate (stepsToL0 s.loop.phase) .main
  | .fwd e n => fwdTurns e n (s.pins.get e)
  | .rev e n => revTurns e n (s.pins.get e)
  | .bounce e => moveTurns e (nextPins (s.pins.get e)) ++ moveTurns e (s.pins.get e)
  | .jump e => moveTurns e (s.pins.get e ^^^ 0b11#2)
  | .cmd v => (commandBytes v).map .deliver

/-- A whole script, line after line (R61). -/
def runScript : List StimLine → State → Host.Outcome State Fault Refusal
  | [], s => .next s
  | l :: ls, s => andThen (runTurns (lineTurns l s) s) (runScript ls)

end Sys2Proof.Machine
end

