-- ==== Sys2Proof/Safety.lean ====
section
/-! DEFINITION. The terms that statements about MIP-QDSP use: the parts of the state that an operation may leave
alone, the invariant that every step keeps, error conditions, what the host may receive, admissible runs. -/

namespace Sys2Proof.Safety

open Sys2Proof.Machine

/-- The encoders, their pending flags and the pins are the same: all that QD and ENV write (R112). -/
def SameEncoders (s t : State) : Prop := t.enc = s.enc ∧ t.irq = s.irq ∧ t.pins = s.pins

/-- `gate.last_sent` and the outbound log are the same (R80). -/
def SameTelemetry (s t : State) : Prop := t.lastSent = s.lastSent ∧ t.tx = s.tx

/-- The input buffer, the motor log and the indicator with its history are the same (R86). -/
def SameReceive (s t : State) : Prop :=
  t.rx = s.rx ∧ t.motor = s.motor ∧ t.led = s.led ∧ t.ledHistory = s.ledHistory

/-- The Control Loop's registers are the same (R23, R24). -/
def SameLoop (s t : State) : Prop := t.loop = s.loop

/-- The parameters (R30) and the fields that only choose the interleaving are the same. -/
def SameSetup (s t : State) : Prop := t.cfg = s.cfg ∧ t.script = s.script ∧ t.turns = s.turns

/-- All that MAIN writes is the same (R109, R112). -/
def SameMain (s t : State) : Prop := SameTelemetry s t ∧ SameReceive s t ∧ SameLoop s t

/-- The two's complement wrap of R10 at `POS_WIDTH` = 32. -/
def wrap32 (v : Int) : Int := v.bmod (2 ^ 32)

/-- The stream of frames of a list of snapshots (R52, R82). -/
def frames (l : List Snapshot) : List Byte := l.flatMap txFrame

/-- The snapshot that the gate holds after the snapshots `l` were sent from a reset to `init` (R22). -/
def lastOf (init : Option Snapshot) (l : List Snapshot) : Option Snapshot := l.getLast?.or init

/-- The telemetry invariant (R22, R52, R80, R82, R83): the outbound log is exactly a stream of whole frames, each
of a snapshot with a normalized angle that differs from the one sent before it, and `gate.last_sent` is the
snapshot of the last of them. -/
def TelemetryInv (s : State) : Prop :=
  ∃ l : List Snapshot,
    s.tx = frames l ∧
    s.lastSent = lastOf (resetLastSent s.cfg.lastSentInit) l ∧
    (∀ t ∈ l, t.angle < Config.modulus) ∧
    l.IsChain (· ≠ ·) ∧
    (∀ t ∈ l.head?, resetLastSent s.cfg.lastSentInit ≠ some t)

/-- The command invariant (R25, R26, R57, R90): every motor event is a signed 16-bit speed, the indicator shows
whether the last one was non-zero (off before any), and the level history ends at the present level and holds no
level twice in a row. -/
def CommandInv (s : State) : Prop :=
  (∀ v ∈ s.motor, -32768 ≤ v ∧ v ≤ 32767) ∧
  s.led = (match s.motor.getLast? with | none => false | some v => ledLevel v) ∧
  s.ledHistory.getLast? = some s.led ∧
  s.ledHistory.IsChain (· ≠ ·)

/-- The decoder invariant of one encoder (R18, R19, R21, R106): with no interrupt pending the latch phase is the
pin word, so that a spurious TICK reads a NULL word. -/
def LatchInv (s : State) (e : Encoder) : Prop := s.irq.get e = true ∨ (s.enc.get e).phase = s.pins.get e

/-- The buffer invariant (R7, R28): the capacity is positive and never exceeded. -/
def BufferInv (s : State) : Prop := 0 < s.cfg.rxCapacity ∧ s.rx.length ≤ s.cfg.rxCapacity

/-- With `LATCH_DIV` = 1 the second position register is no register (R18): it keeps its reset value. -/
def OneRegisterInv (s : State) : Prop :=
  s.cfg.latchDiv = .one → s.enc.cart.latched = 0 ∧ s.enc.angle.latched = 0

/-- With `LATCH_DIV` = 4 the position register agrees with `steps asr 2` whenever the latch stands at `LATCH_PHASE`
(R65: it is reloaded at each visit, and R117 resets both to 0). -/
def ReloadInv (s : State) (e : Encoder) : Prop :=
  s.cfg.latchDiv = .four → (s.enc.get e).phase = s.cfg.latchPhase →
    (s.enc.get e).latched = (s.enc.get e).steps.sshiftRight 2

/-- The invariant of the machine. -/
structure Inv (s : State) : Prop where
  telemetry : TelemetryInv s
  command : CommandInv s
  latchCart : LatchInv s .cart
  latchAngle : LatchInv s .angle
  buffer : BufferInv s
  oneRegister : OneRegisterInv s
  reloadCart : ReloadInv s .cart
  reloadAngle : ReloadInv s .angle

/-- The codes of R102: labels for conditions, held in no register. -/
inductive ErrorCode where
  | desync
  | partialFrame
  | qInvalid
  | rxOverflow
deriving DecidableEq, Repr

/-- The condition that a turn meets in a state (R102), if any. E_TXFAIL is the outbound stream's and no state of the
block shows it (R81): it is `HostMayReceive`. -/
def errorOf (t : Turn) (s : State) : Option ErrorCode :=
  match t with
  | .main =>
    match s.loop.phase with
    | .l3 =>
      if rxAvail s < Config.rxFrameLen then some .partialFrame
      else match s.rx with
        | [] => none
        | b :: _ => if b = Config.rxSync then none else some .desync
    | _ => none
  | .tick e => if transClass (tickWord s e) = .invalid then some .qInvalid else none
  | .deliver _ => if rxHasRoom s then none else some .rxOverflow
  | .setPins _ _ => none
  | .powerOn _ _ => none

/-- What the host may have received of the outbound log (R81, R127, E_TXFAIL of R102): any subsequence. -/
def HostMayReceive (received : List Byte) (s : State) : Prop := received.Sublist s.tx

/-- A turn that changes neither the Control Loop's registers nor the power (R109, R112): any turn but MAIN's and
power-on. -/
def notMain : Turn → Bool
  | .main => false
  | .powerOn _ _ => false
  | _ => true

/-- An infinite run: each state is what the turn at it leaves (R97, R98). -/
def IsRun (turn : Nat → Turn) (run : Nat → State) : Prop := ∀ n, runTurn (turn n) (run n) = .next (run (n + 1))

/-- The runs that R99 admits: MAIN steps infinitely often, and each pending interrupt is serviced at last. -/
def Admissible (turn : Nat → Turn) (run : Nat → State) : Prop :=
  IsRun turn run ∧
  (∀ n, ∃ m, n ≤ m ∧ turn m = .main) ∧
  (∀ n e, (run n).irq.get e = true → ∃ m, n ≤ m ∧ turn m = .tick e)

/-- What may happen to an encoder when each change of a pin is serviced before the next (R68): a forward or a
reverse transition followed by its own TICK, or a spurious TICK (R106). -/
inductive Move where
  | forward (e : Encoder)
  | reverse (e : Encoder)
  | spurious (e : Encoder)
deriving DecidableEq, Repr

/-- The encoder of a move. -/
def moveEncoder : Move → Encoder
  | .forward e => e
  | .reverse e => e
  | .spurious e => e

/-- The pin word that a move leaves (R49, R62). -/
def moveTarget (m : Move) (p : PinWord) : PinWord :=
  match m with
  | .forward _ => nextPins p
  | .reverse _ => prevPins p
  | .spurious _ => p

/-- The class of the word that the TICK of a move reads (R68). -/
def moveClass : Move → TransClass
  | .forward _ => .fwd
  | .reverse _ => .rev
  | .spurious _ => .null

/-- The net count of the moves of encoder `e` (R68): forward transitions minus reverse ones. -/
def netCount (e : Encoder) : List Move → Int
  | [] => 0
  | m :: ms => (if moveEncoder m = e then classDelta (moveClass m) else 0) + netCount e ms

/-- The turns of a list of moves from the pins `p` (R61 `MOVE`, R68). -/
def moveListTurns : List Move → PerEncoder PinWord → List Turn
  | [], _ => []
  | m :: ms, p =>
    moveTurns (moveEncoder m) (moveTarget m (p.get (moveEncoder m))) ++
      moveListTurns ms (p.set (moveEncoder m) (moveTarget m (p.get (moveEncoder m))))

/-- The turns of a list of moves with MAIN steps (`none`) among them, from the pins `p` (R98, R100). -/
def scenarioTurns : List (Option Move) → PerEncoder PinWord → List Turn
  | [], _ => []
  | none :: ms, p => .main :: scenarioTurns ms p
  | some m :: ms, p =>
    moveTurns (moveEncoder m) (moveTarget m (p.get (moveEncoder m))) ++
      scenarioTurns ms (p.set (moveEncoder m) (moveTarget m (p.get (moveEncoder m))))

/-- What R64 and R65 say a TICK of QD[e] leaves whose word counts `d` and ends at the pin word `new`: the pending
flag cleared, the phase moved, the count wrapped, the position (with `LATCH_DIV` = 1 the steps; with 4 the floor of a
quarter of them at `LATCH_PHASE`, and elsewhere as it was), and all else as it was. -/
structure TickLeaves (e : Encoder) (d : Int) (new : PinWord) (s t : State) : Prop where
  flag : t.irq.get e = false
  phase : (t.enc.get e).phase = new
  steps : (t.enc.get e).steps.toInt = wrap32 ((s.enc.get e).steps.toInt + d)
  positionOne : s.cfg.latchDiv = .one → position t e = (t.enc.get e).steps
  positionReloaded : s.cfg.latchDiv = .four → new = s.cfg.latchPhase →
    (position t e).toInt = (t.enc.get e).steps.toInt / 4
  positionKept : s.cfg.latchDiv = .four → new ≠ s.cfg.latchPhase → position t e = position s e
  spareKept : s.cfg.latchDiv = .one → (t.enc.get e).latched = (s.enc.get e).latched
  others : ∀ f, f ≠ e → t.enc.get f = s.enc.get f ∧ t.irq.get f = s.irq.get f
  pins : t.pins = s.pins
  main : SameMain s t
  setup : SameSetup s t
  ret : t.ret = s.ret

/-- Runs `exec i` `n` times, one after the other. -/
def execTimes (i : Instr) : Nat → State → Host.Outcome State Fault Refusal
  | 0, s => .next s
  | n + 1, s => andThen (exec i s) (execTimes i n)

end Sys2Proof.Safety
end

