-- ==== Sys2Proof/Certificates/Slice0/Obligations.lean ====
section
/-! DEFINITION. The statements for the provers. Each docstring names the rule of spec/ it formalises, or says that
it rests on a choice of the model's. -/

open Sys2Proof Sys2Proof.Machine Sys2Proof.Safety

/-! Encodings. -/

/-- R50: the transition table, word by word, and the gray-index formula that gives it. -/
def Obligations.TransitionTableFollowsGrayIndex : Prop :=
  (∀ r ∈ [((0 : Nat), TransClass.null, (0 : Int)), (1, .rev, -1), (2, .fwd, 1), (3, .invalid, 0),
      (4, .fwd, 1), (5, .null, 0), (6, .invalid, 0), (7, .rev, -1),
      (8, .rev, -1), (9, .invalid, 0), (10, .null, 0), (11, .fwd, 1),
      (12, .invalid, 0), (13, .fwd, 1), (14, .rev, -1), (15, .null, 0)],
    transClass (BitVec.ofNat 4 r.1) = r.2.1 ∧ delta (BitVec.ofNat 4 r.1) = r.2.2) ∧
  (∀ w : TransWord,
    delta w = (match (((gray (newPins w) : Int) - (gray (oldPins w) : Int)) % 4).toNat with
      | 0 => 0 | 1 => 1 | 3 => -1 | _ => 0))

/-- R49: the forward cycle 00, 10, 11, 01, its reverse, the gray index, and that neighbours differ in one bit. -/
def Obligations.ForwardCycleIsGray : Prop :=
  nextPins 0b00#2 = 0b10#2 ∧ nextPins 0b10#2 = 0b11#2 ∧ nextPins 0b11#2 = 0b01#2 ∧ nextPins 0b01#2 = 0b00#2 ∧
  gray 0b00#2 = 0 ∧ gray 0b10#2 = 1 ∧ gray 0b11#2 = 2 ∧ gray 0b01#2 = 3 ∧
  (∀ p : PinWord, prevPins (nextPins p) = p ∧ nextPins (prevPins p) = p ∧
    ((p ^^^ nextPins p) = 0b01#2 ∨ (p ^^^ nextPins p) = 0b10#2))

/-- R70: in every state, whatever its registers and parameters hold, a TICK that reads a FWD word increases the count
by 1; and exchanging the A and B wires of an encoder (both bits of the old and of the new pin word) turns every FWD
word into a REV word and the other way round. -/
def Obligations.ExchangedWiresReverseDirection : Prop :=
  (∀ (s : State) (e : Encoder), transClass (tickWord s e) = .fwd →
    ∃ t, exec (.tick e) s = .next t ∧ (t.enc.get e).steps.toInt = wrap32 ((s.enc.get e).steps.toInt + 1)) ∧
  (∀ a b c d : Bool,
    (transClass (transWord (BitVec.ofBool a ++ BitVec.ofBool b) (BitVec.ofBool c ++ BitVec.ofBool d)) = .fwd ↔
      transClass (transWord (BitVec.ofBool b ++ BitVec.ofBool a) (BitVec.ofBool d ++ BitVec.ofBool c)) = .rev))

/-- Words written out from R48, R52 and R56 decode to what they stand for. That a head byte is a word, that of CMD_DECODE
or of CMD_DISCARD (R86), is the model's reading, DEDUCED (log entry 14). -/
def Obligations.WrittenWordsDecode : Prop :=
  decode (.trans .cart 0b0010#4) = .ok (.qdFwd00to10 .cart) ∧
  decode (.trans .angle 0b1110#4) = .ok (.qdRev11to10 .angle) ∧
  decode (.trans .cart 0b0110#4) = .ok (.qdInvalid01to10 .cart) ∧
  decode (.trans .angle 0b1111#4) = .ok (.qdNull11to11 .angle) ∧
  decode (.head 0x55#8) = .ok .cmdDecode ∧
  decode (.head 0xAA#8) = .ok (.cmdDiscard 0xAA#8) ∧
  decode (.inbound [0x55#8, 0x2C#8, 0x01#8]) = .ok (.rxf 0x2C#8 0x01#8) ∧
  decode (.outbound [0xAA#8, 0x0A#8, 0x00#8, 0x05#8, 0x00#8]) = .ok (.txf 0x0A#8 0x00#8 0x05#8 0x00#8)

/-- Decoding the word of a well-formed instruction gives it back, for every instruction that has a word. Which ones
have none is the model's reading, DEDUCED (log entry 15): the operations that R60 selects by a trigger, TICK, MAYBE_SEND
and CMD_POLL among them, whose "Encoding" lines (R64, R80, R86) name the word they read or send. That CMD_DECODE's word
is the head byte is its reading too (log entry 14). -/
def Obligations.DecodeOfEncode : Prop :=
  (∀ i : Instr, ∀ c : Code, i.wellFormed = true → encode i = some c → decode c = .ok i) ∧
  (∀ i : Instr, encode i = none ↔ instrFormat i = .op)

/-- The other direction: what a word decodes to is well formed and has that word, so no two words of a format
decode alike. That the head byte 0x55 is CMD_DECODE's word, and any other CMD_DISCARD's, is the model's reading, DEDUCED
(log entry 14): R46 has no head-byte format, R89 gives CMD_DECODE the encoding RXF, and R60 and R86 select the two by
the head byte. -/
def Obligations.EncodeOfDecode : Prop :=
  ∀ c : Code, ∀ i : Instr, decode c = .ok i → i.wellFormed = true ∧ encode i = some c

/-- R58: frames have a fixed length told by their direction, and any payload, sync values among them, is legal. -/
def Obligations.FramesHaveFixedLength : Prop :=
  (∀ bytes : List Byte, (∃ i, decode (.inbound bytes) = .ok i) ↔ ∃ lo hi, bytes = [0x55#8, lo, hi]) ∧
  (∀ bytes : List Byte, (∃ i, decode (.outbound bytes) = .ok i) ↔
    ∃ a aHi b bHi, bytes = [0xAA#8, a, aHi, b, bHi]) ∧
  (∀ e : Encoder, ∀ w : TransWord, ∃ i, decode (.trans e w) = .ok i)

/-! The Quadrature Decoder. -/

/-- R50, R64: the four NULL rows count nothing, clear the pending flag, leave the phase at the row's pin word, and
change nothing else (TickLeaves). That they do so in every state, also where the latch phase and the pins do not form
the row's word, is the model's reading of a row executed alone, DEDUCED (log entry 11): in a run a row is executed only where the state
forms its word. -/
def Obligations.NullWordsLeaveCount : Prop :=
  ∀ (s : State) (e : Encoder),
    ∀ r ∈ [(Instr.qdNull00to00 e, 0b00#2), (Instr.qdNull01to01 e, 0b01#2),
        (Instr.qdNull10to10 e, 0b10#2), (Instr.qdNull11to11 e, 0b11#2)],
      ∃ t, exec r.1 s = .next t ∧ TickLeaves e 0 r.2 s t

/-- R50, R64: the four FWD rows count one up, wrapping, and else as TickLeaves says. That they do so in every state,
also where the latch phase and the pins do not form the row's word, is the model's reading of a row executed alone, DEDUCED (log entry 11): in a run a row is executed only where the state
forms its word. -/
def Obligations.ForwardWordsCountUp : Prop :=
  ∀ (s : State) (e : Encoder),
    ∀ r ∈ [(Instr.qdFwd00to10 e, 0b10#2), (Instr.qdFwd01to00 e, 0b00#2),
        (Instr.qdFwd10to11 e, 0b11#2), (Instr.qdFwd11to01 e, 0b01#2)],
      ∃ t, exec r.1 s = .next t ∧ TickLeaves e 1 r.2 s t

/-- R50, R64: the four REV rows count one down, wrapping, and else as TickLeaves says. That they do so in every state,
also where the latch phase and the pins do not form the row's word, is the model's reading of a row executed alone, DEDUCED (log entry 11): in a run a row is executed only where the state
forms its word. -/
def Obligations.ReverseWordsCountDown : Prop :=
  ∀ (s : State) (e : Encoder),
    ∀ r ∈ [(Instr.qdRev00to01 e, 0b01#2), (Instr.qdRev01to11 e, 0b11#2),
        (Instr.qdRev10to00 e, 0b00#2), (Instr.qdRev11to10 e, 0b10#2)],
      ∃ t, exec r.1 s = .next t ∧ TickLeaves e (-1) r.2 s t

/-- R50, R64: the four INVALID rows count nothing and move the phase to the row's pin word, and else as TickLeaves says.
That they do so in every state, also where the latch phase and the pins do not form the row's word, is the model's reading of a row executed alone, DEDUCED (log entry 11): in a run a row is executed only where the state
forms its word. -/
def Obligations.InvalidWordsResynchronise : Prop :=
  ∀ (s : State) (e : Encoder),
    ∀ r ∈ [(Instr.qdInvalid00to11 e, 0b11#2), (Instr.qdInvalid01to10 e, 0b10#2),
        (Instr.qdInvalid10to01 e, 0b01#2), (Instr.qdInvalid11to00 e, 0b00#2)],
      ∃ t, exec r.1 s = .next t ∧ TickLeaves e 0 r.2 s t

/-- R64: TICK completes in every state and leaves what its transition word says, the word being the latch phase
before it and the pins now. -/
def Obligations.TickCountsItsWord : Prop :=
  ∀ (s : State) (e : Encoder),
    ∃ t, exec (.tick e) s = .next t ∧
      TickLeaves e (delta ((s.enc.get e).phase ++ s.pins.get e)) (s.pins.get e) s t

/-- TICK is its transition row: the table's sixteen rows and the gray-index formula give one operation (R50,
R64). -/
def Obligations.TickIsItsTransitionRow : Prop :=
  ∀ (s : State) (e : Encoder), exec (.tick e) s = exec (decodeTrans e ((s.enc.get e).phase ++ s.pins.get e)) s

/-- R106 and the corner case of R64: where the latch phase is the pin word, a TICK changes nothing but the pending
flag; with no interrupt pending and the invariant of the latch, it changes nothing at all. -/
def Obligations.SpuriousTickChangesNothing : Prop :=
  ∀ (s : State) (e : Encoder), ReloadInv s e →
    ((s.enc.get e).phase = s.pins.get e → exec (.tick e) s = .next (s.setIrq e false)) ∧
    (LatchInv s e → s.irq.get e = false → exec (.tick e) s = .next s)

/-- R20: a step of any agent but power-on changes each `steps` by -1, 0 or +1, and only a TICK of that encoder
changes it, by the delta of the word it reads. -/
def Obligations.StepsMoveByAtMostOne : Prop :=
  ∀ (s t : State) (turn : Turn) (e : Encoder), (∀ p q, turn ≠ .powerOn p q) → runTurn turn s = .next t →
    ((turn = .tick e ∧ (t.enc.get e).steps = (s.enc.get e).steps + BitVec.ofInt 32 (delta (tickWord s e))) ∨
      (turn ≠ .tick e ∧ (t.enc.get e).steps = (s.enc.get e).steps)) ∧
    (delta (tickWord s e) = -1 ∨ delta (tickWord s e) = 0 ∨ delta (tickWord s e) = 1)

/-- R72: the counters wrap in two's complement, upwards and downwards. -/
def Obligations.CountersWrap : Prop :=
  ∀ (s : State) (e : Encoder),
    ((s.enc.get e).steps.toInt = 2 ^ 31 - 1 → transClass (tickWord s e) = .fwd →
      ∃ t, exec (.tick e) s = .next t ∧ (t.enc.get e).steps.toInt = -2 ^ 31 ∧
        (s.cfg.latchDiv = .one → (position t e).toInt = -2 ^ 31)) ∧
    ((s.enc.get e).steps.toInt = -2 ^ 31 → transClass (tickWord s e) = .rev →
      ∃ t, exec (.tick e) s = .next t ∧ (t.enc.get e).steps.toInt = 2 ^ 31 - 1 ∧
        (s.cfg.latchDiv = .one → (position t e).toInt = 2 ^ 31 - 1))

/-- R65: with `LATCH_DIV` = 4, from `LATCH_PHASE` with the position in step, the position stands still for three
forward transitions and the fourth, back at `LATCH_PHASE`, adds exactly 1. (No counter wrap on the way.) -/
def Obligations.FullCycleCountsOneWithDivFour : Prop :=
  ∀ (s : State) (e : Encoder), s.cfg.latchDiv = .four → (s.enc.get e).phase = s.cfg.latchPhase →
    s.pins.get e = s.cfg.latchPhase → ReloadInv s e → (s.enc.get e).steps.toInt + 4 < 2 ^ 31 →
    ∀ k, k ≤ 4 → ∃ t, runTurns (fwdTurns e k (s.pins.get e)) s = .next t ∧
      (t.enc.get e).steps.toInt = (s.enc.get e).steps.toInt + k ∧
      (position t e).toInt = (position s e).toInt + (if k = 4 then 1 else 0)

/-- R67: a transition that is at once reversed leaves the count and the phase; between its two TICKs the count is
off by one with `LATCH_DIV` = 1, and with `LATCH_DIV` = 4 the position stands still for a bounce off
`LATCH_PHASE`. -/
def Obligations.BounceIsAbsorbed : Prop :=
  ∀ (s : State) (e : Encoder) (d : Int) (q : PinWord), (s.enc.get e).phase = s.pins.get e →
    ((q = nextPins (s.pins.get e) ∧ d = 1) ∨ (q = prevPins (s.pins.get e) ∧ d = -1)) →
    ∃ u t, runTurns (moveTurns e q) s = .next u ∧ runTurns (moveTurns e (s.pins.get e)) u = .next t ∧
      (u.enc.get e).steps.toInt = wrap32 ((s.enc.get e).steps.toInt + d) ∧
      (t.enc.get e).steps = (s.enc.get e).steps ∧ (t.enc.get e).phase = (s.enc.get e).phase ∧
      (s.cfg.latchDiv = .one → position t e = position s e ∧
        (position u e).toInt = wrap32 ((position s e).toInt + d)) ∧
      (s.cfg.latchDiv = .four → s.cfg.latchPhase = s.pins.get e → ReloadInv s e →
        position u e = position s e ∧ position t e = position s e)

/-- R68: while every change of a pin is serviced by its own TICK before the next change, no TICK reads an INVALID
word, and after any number of transitions of both encoders, in any order, the count of each has moved by its
forward transitions minus its reverse ones, wrapped. -/
def Obligations.QuadratureCountIsExact : Prop :=
  ∀ (s : State), (∀ e, (s.enc.get e).phase = s.pins.get e) → ∀ ms : List Move,
    ∃ t, runTurns (moveListTurns ms s.pins) s = .next t ∧
      (∀ e, (t.enc.get e).phase = t.pins.get e ∧
        (t.enc.get e).steps.toInt = wrap32 ((s.enc.get e).steps.toInt + netCount e ms) ∧
        (s.cfg.latchDiv = .one → position t e = (t.enc.get e).steps)) ∧
      (∀ m, ∃ u, runTurn (.setPins (moveEncoder m) (moveTarget m (t.pins.get (moveEncoder m)))) t = .next u ∧
        transClass (tickWord u (moveEncoder m)) = moveClass m ∧ moveClass m ≠ .invalid) ∧
      SameMain s t ∧ SameSetup s t

/-- R69: changes that no TICK reads in between are read as their net change, whatever they were on the way; in either
direction (`along` and `d`) two transitions are read as an INVALID word, three as one transition of the opposite
direction, four and a change taken back as a NULL word. -/
def Obligations.CoalescedChangesAreMisread : Prop :=
  ∀ (s : State) (e : Encoder), (s.enc.get e).phase = s.pins.get e →
    (∀ (changes : List PinWord) (q : PinWord),
      ∃ t, runTurns (changes.map (.setPins e) ++ [.setPins e q, .tick e]) s = .next t ∧
        (t.enc.get e).steps.toInt = wrap32 ((s.enc.get e).steps.toInt + delta (s.pins.get e ++ q)) ∧
        (t.enc.get e).phase = q) ∧
    (∀ (along : PinWord → PinWord) (d : Int) (p1 p2 p3 p4 : PinWord),
      (along = nextPins ∧ d = 1 ∨ along = prevPins ∧ d = -1) →
      p1 = along (s.pins.get e) → p2 = along p1 → p3 = along p2 → p4 = along p3 →
      (transClass (s.pins.get e ++ p2) = .invalid ∧
        ∃ t, runTurns [.setPins e p1, .setPins e p2, .tick e] s = .next t ∧
          (t.enc.get e).steps = (s.enc.get e).steps ∧ (t.enc.get e).phase = p2) ∧
      (transClass (s.pins.get e ++ p3) = (if d = 1 then .rev else .fwd) ∧
        ∃ t, runTurns [.setPins e p1, .setPins e p2, .setPins e p3, .tick e] s = .next t ∧
          (t.enc.get e).steps.toInt = wrap32 ((s.enc.get e).steps.toInt - d) ∧ (t.enc.get e).phase = p3) ∧
      (transClass (s.pins.get e ++ p4) = .null ∧
        ∃ t, runTurns [.setPins e p1, .setPins e p2, .setPins e p3, .setPins e p4, .tick e] s = .next t ∧
          (t.enc.get e).steps = (s.enc.get e).steps ∧ (t.enc.get e).phase = (s.enc.get e).phase) ∧
      (∃ t, runTurns [.setPins e p1, .setPins e (s.pins.get e), .tick e] s = .next t ∧
        (t.enc.get e).steps = (s.enc.get e).steps ∧ (t.enc.get e).phase = (s.enc.get e).phase))

/-- R107: the TICKs of the two encoders give the same final state in either order. -/
def Obligations.TicksOfTheEncodersCommute : Prop :=
  ∀ s : State, runTurns [.tick .cart, .tick .angle] s = runTurns [.tick .angle, .tick .cart] s

/-- R71: GET_POSITION completes in every state, returns the position of its encoder (the steps with `LATCH_DIV` = 1,
the reloaded register with 4) and writes nothing; two reads with no TICK of that encoder and no power-on between them
return the same, and before any TICK it returns the reset value 0. (That the value is returned in `ret` is the model's
choice, log entry 8.) -/
def Obligations.GetPositionReturnsCount : Prop :=
  ∀ (s : State) (e : Encoder),
    (∃ t c, exec (.getPosition e) s = .next t ∧ t.ret = .position c ∧
      (s.cfg.latchDiv = .one → c = (s.enc.get e).steps) ∧ (s.cfg.latchDiv = .four → c = (s.enc.get e).latched) ∧
      SameEncoders s t ∧ SameMain s t ∧ SameSetup s t) ∧
    (∀ (turns : List Turn) (u : State), (∀ x ∈ turns, x ≠ .tick e ∧ ∀ p q, x ≠ .powerOn p q) →
      runTurns turns s = .next u → ∃ t v, exec (.getPosition e) s = .next t ∧ exec (.getPosition e) u = .next v ∧
        v.ret = t.ret) ∧
    (∀ p0 p1, ∃ t, exec (.getPosition e) (powerOn p0 p1 s) = .next t ∧ t.ret = .position 0)

/-! The Angle Normalizer. -/

/-- R73: NORMALIZE completes in every state, returns `loop.angle_raw` floored modulo 1200, and writes nothing. -/
def Obligations.NormalizeReturnsFlooredModulo : Prop :=
  ∀ s : State, ∃ t n, exec .normalize s = .next t ∧ t.ret = .angle n ∧ n < 1200 ∧
    (n : Int) = s.loop.angleRaw.toInt.fmod 1200 ∧
    SameEncoders s t ∧ SameMain s t ∧ SameSetup s t

/-- R77: range, wrap idempotence, congruence, and continuity on the circle of one revolution. -/
def Obligations.NormalizeWrapsContinuously : Prop :=
  ∀ c : Int, normalizeAngle c < 1200 ∧ normalizeAngle (c + 1200) = normalizeAngle c ∧
    (1200 : Int) ∣ c - (normalizeAngle c : Int) ∧
    (normalizeAngle (c + 1) = normalizeAngle c + 1 ∨ (normalizeAngle c = 1199 ∧ normalizeAngle (c + 1) = 0))

/-- R74: the source's formula with the truncating remainder is the floored modulo. -/
def Obligations.TruncatedFormulaIsNormalize : Prop :=
  ∀ c : Int, ((c.tmod 1200) + 1200).tmod 1200 = (normalizeAngle c : Int)

/-- R75: the single conditional wrap agrees with NORMALIZE exactly on [-1200, 2400), and elsewhere is outside
[0, 1200). -/
def Obligations.SingleWrapAgreesOnlyNearby : Prop :=
  ∀ c : Int,
    (((if c < 0 then c + 1200 else if 1200 ≤ c then c - 1200 else c) = (normalizeAngle c : Int)) ↔
      (-1200 ≤ c ∧ c < 2400)) ∧
    (¬ (-1200 ≤ c ∧ c < 2400) →
      ¬ (0 ≤ (if c < 0 then c + 1200 else if 1200 ≤ c then c - 1200 else c) ∧
        (if c < 0 then c + 1200 else if 1200 ≤ c then c - 1200 else c) < 1200))

/-! The Telemetry Encoder. -/

/-- R78: SNAPSHOT completes in every state, returns the cart sample at full width and the normalized angle sample,
and writes nothing. -/
def Obligations.SnapshotTakesBothSamples : Prop :=
  ∀ s : State, ∃ t u, exec .snapshot s = .next t ∧ t.ret = .snapshot u ∧ u.cart = s.loop.cart ∧
    (u.angle : Int) = s.loop.angleRaw.toInt.fmod 1200 ∧
    SameEncoders s t ∧ SameMain s t ∧ SameSetup s t

/-- R80: MAYBE_SEND completes in every state. With `last_sent` NONE or different in either field it appends the five
bytes of one frame and records the snapshot; else it changes nothing. -/
def Obligations.MaybeSendWritesOneFrame : Prop :=
  ∀ (s : State) (u : Snapshot), u.cart = s.loop.cart → (u.angle : Int) = s.loop.angleRaw.toInt.fmod 1200 →
    (s.lastSent = some u → exec .maybeSend s = .next s) ∧
    (s.lastSent ≠ some u → ∃ t a aHi b bHi, exec .maybeSend s = .next t ∧
      t.tx = s.tx ++ [0xAA#8, a, aHi, b, bHi] ∧
      (a.toNat + 256 * aHi.toNat : Int) = u.cart.toInt % 65536 ∧ b.toNat + 256 * bHi.toNat = u.angle ∧
      t.lastSent = some u ∧
      SameEncoders s t ∧ SameReceive s t ∧ SameLoop s t ∧ SameSetup s t ∧ t.ret = s.ret)

/-- R83: of two consecutive calls the second sends nothing when its snapshot equals the first's, and exactly one
frame when it differs from it in either field; with `last_sent` NONE the first sends one. -/
def Obligations.ChangeGateSendsOnDifference : Prop :=
  ∀ (s t : State) (c a : Count), exec .maybeSend s = .next t →
    (s.lastSent = none → t.tx = s.tx ++ txFrame (snapshotOf s)) ∧
    ∃ v, exec .maybeSend ((t.setLoopCart c).setLoopAngleRaw a) = .next v ∧
      (c = s.loop.cart ∧ normalizeAngle a.toInt = normalizeAngle s.loop.angleRaw.toInt → v.tx = t.tx) ∧
      (c ≠ s.loop.cart ∨ normalizeAngle a.toInt ≠ normalizeAngle s.loop.angleRaw.toInt →
        v.tx = t.tx ++ txFrame { cart := c, angle := normalizeAngle a.toInt } ∧ v.tx.length = t.tx.length + 5)

/-- R55: the host's reading of a frame gives the snapshot back: the cart in -32768..32767 read signed, in 0..65535
read unsigned, the angle always. -/
def Obligations.HostReadsFrameBack : Prop :=
  ∀ u : Snapshot, u.angle < 1200 →
    ∃ a aHi b bHi, txFrame u = [0xAA#8, a, aHi, b, bHi] ∧ hostFieldB b bHi = u.angle ∧
      (-32768 ≤ u.cart.toInt → u.cart.toInt ≤ 32767 → hostFieldA true a aHi = u.cart.toInt) ∧
      (0 ≤ u.cart.toInt → u.cart.toInt ≤ 65535 → hostFieldA false a aHi = u.cart.toInt)

/-- The frames as instructions, which is the model's reading of their rows (log entry 12). TXF (R52) completes in every
state: its five bytes, first on the wire first, are appended to the outbound log in one step, and nothing else
changes. RXF (R56) completes where its frame stands at the head of `rx`, and there it is the CMD_POLL that consumes
it. -/
def Obligations.FramesRunAsInstructions : Prop :=
  (∀ (s : State) (a aHi b bHi : Byte), ∃ t, exec (.txf a aHi b bHi) s = .next t ∧
    t.tx = s.tx ++ [0xAA#8, a, aHi, b, bHi] ∧ t.lastSent = s.lastSent ∧
    SameEncoders s t ∧ SameReceive s t ∧ SameLoop s t ∧ SameSetup s t ∧ t.ret = s.ret) ∧
  (∀ (s : State) (lo hi : Byte) (rest : List Byte), s.rx = 0x55#8 :: lo :: hi :: rest →
    ∃ t, exec (.rxf lo hi) s = .next t ∧ exec .cmdPoll s = .next t ∧ t.rx = rest ∧
      t.motor = s.motor ++ [speedOf lo hi] ∧ t.led = (speedOf lo hi != 0) ∧
      SameEncoders s t ∧ SameTelemetry s t ∧ SameLoop s t ∧ SameSetup s t ∧ t.ret = s.ret)

/-- R84: the report of L2 does not depend on the receive half of the state, nor the receive of L3 on the telemetry
half. -/
def Obligations.HalvesAreIndependent : Prop :=
  (∀ s s' : State, s.loop = s'.loop → s.loop.phase = .l2 → SameTelemetry s s' →
    ∃ t t', exec .loopStep s = .next t ∧ exec .loopStep s' = .next t' ∧ SameTelemetry t t' ∧
      SameReceive s t ∧ SameReceive s' t') ∧
  (∀ s s' : State, s.loop.phase = .l3 → s'.loop.phase = .l3 → SameReceive s s' →
    ∃ t t', exec .loopStep s = .next t ∧ exec .loopStep s' = .next t' ∧ SameReceive t t' ∧
      SameTelemetry s t ∧ SameTelemetry s' t')

/-! The Command Decoder. -/

/-- R87: CMD_WAIT completes and does nothing, and with fewer than three bytes waiting CMD_POLL is CMD_WAIT. -/
def Obligations.PollWaitsBelowThreeBytes : Prop :=
  ∀ s : State, exec .cmdWait s = .next s ∧ (s.rx.length < 3 → exec .cmdPoll s = .next s)

/-- R88: with three bytes waiting and another head byte than 0x55, CMD_POLL completes: the head byte leaves the buffer
and nothing else changes. -/
def Obligations.PollDiscardsOneByte : Prop :=
  ∀ (s : State) (b0 b1 b2 : Byte) (rest : List Byte), s.rx = b0 :: b1 :: b2 :: rest → b0 ≠ 0x55#8 →
    ∃ t, exec .cmdPoll s = .next t ∧ t.rx = b1 :: b2 :: rest ∧
      t.motor = s.motor ∧ t.led = s.led ∧ t.ledHistory = s.ledHistory ∧
      SameEncoders s t ∧ SameTelemetry s t ∧ SameLoop s t ∧ SameSetup s t ∧ t.ret = s.ret

/-- R89: with three bytes waiting and head byte 0x55, CMD_POLL completes: three bytes leave the buffer, one event with the little-endian signed speed is logged, the indicator
shows whether it is non-zero, and nothing else changes. That the level history grows exactly when the level changes is
the model's form of R15's history, DEDUCED (log entry 9). -/
def Obligations.PollDecodesOneFrame : Prop :=
  ∀ (s : State) (b1 b2 : Byte) (rest : List Byte) (n : Nat), s.rx = 0x55#8 :: b1 :: b2 :: rest →
    n = b1.toNat + 256 * b2.toNat →
    ∃ t v, exec .cmdPoll s = .next t ∧
      v = (if n < 32768 then (n : Int) else (n : Int) - 65536) ∧
      t.rx = rest ∧ t.motor = s.motor ++ [v] ∧ (t.led = true ↔ v ≠ 0) ∧
      t.ledHistory = (if t.led = s.led then s.ledHistory else s.ledHistory ++ [t.led]) ∧
      SameEncoders s t ∧ SameTelemetry s t ∧ SameLoop s t ∧ SameSetup s t ∧ t.ret = s.ret

/-- R86: CMD_POLL completes in every state, and is CMD_WAIT below three bytes, else CMD_DISCARD or CMD_DECODE by the
head byte; these complete there and leave the same state. (That the last two, executed by themselves, remove the head
byte too is the model's reading of "State written" in R88 and R89, log entry 10.) -/
def Obligations.PollIsItsSelectedOutcome : Prop :=
  ∀ s : State, ∃ t, exec .cmdPoll s = .next t ∧
    (s.rx.length < 3 → exec .cmdWait s = .next t) ∧
    (∀ b0 rest, s.rx = b0 :: rest → 3 ≤ s.rx.length → b0 ≠ 0x55#8 → exec (.cmdDiscard b0) s = .next t) ∧
    (∀ rest, s.rx = 0x55#8 :: rest → 3 ≤ s.rx.length → exec .cmdDecode s = .next t)

/-- R57: the speed of two payload bytes is a signed 16-bit number; every such number is the speed of some two bytes (of
those that the command `v` of R62 sends); and whatever the bytes, it is forwarded as it is. -/
def Obligations.EverySpeedIsForwarded : Prop :=
  (∀ b1 b2 : Byte, speedOf b1 b2 = (if b1.toNat + 256 * b2.toNat < 32768 then (b1.toNat + 256 * b2.toNat : Int)
    else (b1.toNat + 256 * b2.toNat : Int) - 65536)) ∧
  (∀ v : Int, -32768 ≤ v → v ≤ 32767 → ∃ b1 b2, commandBytes v = [0x55#8, b1, b2] ∧ speedOf b1 b2 = v) ∧
  (∀ (s : State) (b1 b2 : Byte) (rest : List Byte), s.rx = 0x55#8 :: b1 :: b2 :: rest →
    ∃ t, exec .cmdPoll s = .next t ∧ t.motor = s.motor ++ [speedOf b1 b2])

/-- Where CMD_DISCARD, CMD_DECODE and RXF stop: R12 defines `RxRead` only on a non-empty buffer. All of it is the
model's: the fault is a DESIGN CHOICE (log entry 13); that CMD_DISCARD reads one byte and CMD_DECODE three, the head
byte included, is DEDUCED (log entry 10), and that RXF reads three is too (log entry 12). CMD_POLL never selects them
there. -/
def Obligations.ReadOfEmptyBufferFaults : Prop :=
  ∀ (s : State) (b0 lo hi : Byte), s.rx.length < 3 →
    exec .cmdDecode s = .fault .rxUnderflow ∧ exec (.rxf lo hi) s = .fault .rxUnderflow ∧
    (exec (.cmdDiscard b0) s = .fault .rxUnderflow ↔ s.rx = [])

/-- R92 (a): garbage before a frame costs one CMD_POLL a byte, and then the frame is decoded. -/
def Obligations.GarbageIsDrainedThenFrameDecoded : Prop :=
  ∀ (garbage : List Byte) (s : State) (b1 b2 : Byte) (rest : List Byte), (∀ b ∈ garbage, b ≠ 0x55#8) →
    s.rx = garbage ++ 0x55#8 :: b1 :: b2 :: rest →
    ∃ u t, execTimes .cmdPoll garbage.length s = .next u ∧ exec .cmdPoll u = .next t ∧
      u.motor = s.motor ∧ u.led = s.led ∧ u.rx = 0x55#8 :: b1 :: b2 :: rest ∧
      t.motor = s.motor ++ [speedOf b1 b2] ∧ t.rx = rest

/-- R125: a CMD_POLL removes nothing, one byte or three, and one only when the head is not 0x55. -/
def Obligations.PollRemovesAtMostThreeBytes : Prop :=
  ∀ s : State, ∃ t k, exec .cmdPoll s = .next t ∧ t.rx = s.rx.drop k ∧ k ≤ 3 ∧ k ≤ s.rx.length ∧
    (∀ b rest, s.rx = b :: rest → b ≠ 0x55#8 → k ≤ 1)

/-- R90: a CMD_DECODE drives the indicator to whether its speed is non-zero; no instruction but CMD_DECODE, in itself or
as CMD_POLL, LOOP_STEP or its frame, changes the indicator, its history or the motor log; and in a run no turn but
MAIN's at L3 with a whole frame at the head of `rx`, or power-on. -/
def Obligations.OnlyDecodeDrivesOutputs : Prop :=
  (∀ s t : State, exec .cmdDecode s = .next t →
    ∃ v, t.motor = s.motor ++ [v] ∧ (t.led = true ↔ v ≠ 0)) ∧
  (∀ (i : Instr) (s t : State), exec i s = .next t → i ≠ .cmdDecode → i ≠ .cmdPoll → i ≠ .loopStep →
    (∀ lo hi, i ≠ .rxf lo hi) → t.led = s.led ∧ t.ledHistory = s.ledHistory ∧ t.motor = s.motor) ∧
  (∀ (turn : Turn) (s t : State), runTurn turn s = .next t → (∀ p q, turn ≠ .powerOn p q) →
    (t.led = s.led ∧ t.ledHistory = s.ledHistory ∧ t.motor = s.motor) ∨
    (turn = .main ∧ s.loop.phase = .l3 ∧ ∃ b1 b2 rest, s.rx = 0x55#8 :: b1 :: b2 :: rest ∧
      t.motor = s.motor ++ [speedOf b1 b2] ∧ (t.led = true ↔ speedOf b1 b2 ≠ 0)))

/-! The Control Loop. -/

/-- R95: LOOP_STEP completes in every state: at L0 it samples the cart, at L1 the angle, at L2 it is MAYBE_SEND and at L3
CMD_POLL, and the phase goes round. -/
def Obligations.LoopStepRunsItsPhase : Prop :=
  ∀ s : State,
    (s.loop.phase = .l0 → ∃ t, exec .loopStep s = .next t ∧
      t.loop = { phase := .l1, cart := position s .cart, angleRaw := s.loop.angleRaw } ∧
      SameEncoders s t ∧ SameTelemetry s t ∧ SameReceive s t ∧ SameSetup s t ∧ t.ret = s.ret) ∧
    (s.loop.phase = .l1 → ∃ t, exec .loopStep s = .next t ∧
      t.loop = { phase := .l2, cart := s.loop.cart, angleRaw := position s .angle } ∧
      SameEncoders s t ∧ SameTelemetry s t ∧ SameReceive s t ∧ SameSetup s t ∧ t.ret = s.ret) ∧
    (s.loop.phase = .l2 → ∃ u t, exec .maybeSend s = .next u ∧ exec .loopStep s = .next t ∧
      t.loop = { phase := .l3, cart := s.loop.cart, angleRaw := s.loop.angleRaw } ∧
      SameTelemetry u t ∧ SameEncoders s t ∧ SameReceive s t ∧ SameSetup s t ∧ t.ret = s.ret) ∧
    (s.loop.phase = .l3 → ∃ u t, exec .cmdPoll s = .next u ∧ exec .loopStep s = .next t ∧
      t.loop = { phase := .l0, cart := s.loop.cart, angleRaw := s.loop.angleRaw } ∧
      SameReceive u t ∧ SameEncoders s t ∧ SameTelemetry s t ∧ SameSetup s t ∧ t.ret = s.ret)

/-- R96: four LOOP_STEPs from L0 come back to L0, write at most one frame (that of the two positions), and perform
exactly one CMD_POLL. -/
def Obligations.IterationSendsAtMostOneFrame : Prop :=
  ∀ s : State, s.loop.phase = .l0 →
    ∃ u v t, execTimes .loopStep 3 s = .next u ∧ exec .cmdPoll u = .next v ∧ execTimes .loopStep 4 s = .next t ∧
      t.loop.phase = .l0 ∧ u.loop.phase = .l3 ∧ SameReceive s u ∧ SameReceive v t ∧
      t.tx = s.tx ++ (if s.lastSent = some { cart := position s .cart, angle := normalizeAngle (position s .angle).toInt }
        then [] else txFrame { cart := position s .cart, angle := normalizeAngle (position s .angle).toInt }) ∧
      t.lastSent = some { cart := position s .cart, angle := normalizeAngle (position s .angle).toInt } ∧
      SameEncoders s t ∧ SameSetup s t

/-- R41, R42: whatever turns of the other agents but power-on fall between the steps of one iteration, what the report sends is
the cart position at its L0 step and the angle position at its L1 step. -/
def Obligations.ReportCarriesItsOwnSamples : Prop :=
  ∀ (s s1 s2 : State) (between1 between2 : List Turn), s.loop.phase = .l0 →
    (∀ t ∈ between1, notMain t = true) → (∀ t ∈ between2, notMain t = true) →
    runTurns (.main :: between1) s = .next s1 → runTurns (.main :: between2) s1 = .next s2 →
    s1.loop.phase = .l1 ∧ s2.loop.phase = .l2 ∧ s2.tx = s.tx ∧ s2.lastSent = s.lastSent ∧
    ∃ t, runTurns [.main] s2 = .next t ∧
      t.lastSent = some { cart := position s .cart, angle := normalizeAngle (position s1 .angle).toInt } ∧
      t.tx = s.tx ++ (if s.lastSent = some { cart := position s .cart, angle := normalizeAngle (position s1 .angle).toInt }
        then [] else txFrame { cart := position s .cart, angle := normalizeAngle (position s1 .angle).toInt })

/-- R100: from power-on with any pin words at rest, `LATCH_DIV` = 1 and `LAST_SENT_INIT` = `NONE`, after serviced
transitions of net count 10 of the cart and 1205 of the angle, in any order: if no iteration ran meanwhile, the next
one emits exactly one frame, AA 0A 00 05 00; if MAIN steps ran meanwhile and the loop is at L0, the next iteration
emits that frame, unless the last frame sent carried cart 10 and angle 5. -/
def Obligations.EndToEndScenario : Prop :=
  ∀ (s : State) (p0 p1 : PinWord) (ms : List (Option Move)), s.cfg.latchDiv = .one → s.cfg.lastSentInit = .none →
    netCount .cart (ms.filterMap id) = 10 → netCount .angle (ms.filterMap id) = 1205 →
    ∃ u, runTurns (.powerOn p0 p1 :: scenarioTurns ms { cart := p0, angle := p1 }) s = .next u ∧
      ((∀ m ∈ ms, m ≠ none) → u.tx = [] ∧ ∃ t, execTimes .loopStep 4 u = .next t ∧
        t.tx = [0xAA#8, 0x0A#8, 0x00#8, 0x05#8, 0x00#8] ∧ t.loop.phase = .l0) ∧
      (u.loop.phase = .l0 → ∃ t, execTimes .loopStep 4 u = .next t ∧ t.loop.phase = .l0 ∧
        t.tx = u.tx ++ (if u.lastSent = some { cart := 10#32, angle := 5 } then []
          else [0xAA#8, 0x0A#8, 0x00#8, 0x05#8, 0x00#8]))

/-! The machine. -/

/-- A step runs the decoded instruction (R40, R48, R60, R98): with the turn of an interrupt handler or of MAIN next,
`step` is `exec` of the instruction that turn fetches (for a handler the row its transition word decodes to, for MAIN
LOOP_STEP), at the state that has given the turn out; nothing is added. With no turn in the script the turn is the
free value at the counter, which moves on (the model's choice, log entry 1). -/
def Obligations.StepRunsTheFetchedInstruction : Prop :=
  (∀ (s : State) (e : Encoder) (rest : List Turn), s.script = .tick e :: rest →
    step s = exec (decodeTrans e ((s.enc.get e).phase ++ s.pins.get e)) (s.setScript rest)) ∧
  (∀ (s : State) (rest : List Turn), s.script = .main :: rest → step s = exec .loopStep (s.setScript rest)) ∧
  (∀ s : State, s.script = [] → step s = runTurn (Config.freeTurn s.turns) (s.setTurns (s.turns + 1))) ∧
  (∀ (s : State) (turn : Turn) (i : Instr), fetchInstr turn s = some i → runTurn turn s = exec i s)

/-- At L3 the bytes at the head of `rx` are what MAIN runs (R86, R95): the step is the instruction they decode to, and
the phase goes back to L0. That CMD_DISCARD and CMD_DECODE are executed at the buffer as CMD_POLL finds it is DEDUCED
(log entry 10), that the frame's RXF is the same is too (log entry 12), and the script is the model's (log entry 1). -/
def Obligations.ReceiveStepRunsTheDecodedBytes : Prop :=
  ∀ (s : State) (rest : List Turn), s.script = .main :: rest → s.loop.phase = .l3 →
    ∃ u, exec (decodePoll s.rx) (s.setScript rest) = .next u ∧ step s = .next (u.setLoopPhase .l0) ∧
      (∀ lo hi tail, s.rx = 0x55#8 :: lo :: hi :: tail → exec (.rxf lo hi) (s.setScript rest) = .next u)

/-- R101: every step of every state, whichever agent takes it, completes: no fault, no refusal. -/
def Obligations.EveryStepCompletes : Prop := ∀ s : State, ∃ t, step s = .next t

/-- A script is an interleaving (R61, R98): running the machine for as many steps as the script has turns is running
those turns in order. -/
def Obligations.ScriptIsAnInterleaving : Prop :=
  ∀ (turns rest : List Turn) (s : State), s.script = turns ++ rest →
    Sys2Proof.core.run turns.length s = runTurns turns (s.setScript rest)

/-- The invariant of Safety.Inv (R18, R21, R22, R25, R28, R65, R80, R83, R90) is kept by every step: the outbound log
stays a stream of whole frames of differing snapshots whose last is `last_sent`, the indicator shows the last speed,
the latch agrees with the pins unless an interrupt is pending, and the buffer keeps its capacity. Its clauses on the
level history are of the model's form of R15's history, DEDUCED (log entry 9), and its clause on the register that is
spare with `LATCH_DIV` = 1 is the model's storage, DEDUCED (log entry 20). -/
def Obligations.EveryStepKeepsTheInvariant : Prop :=
  ∀ s t : State, Inv s → step s = .next t → Inv t

/-- The invariant holds after power-on with any pins, for any parameters with a positive capacity, and at
`State.reset`. Its clauses on the level history are DEDUCED (log entry 9), and its clause on the spare register is too
(log entry 20). -/
def Obligations.PowerOnEstablishesTheInvariant : Prop :=
  (∀ (s : State) (p0 p1 : PinWord), 0 < s.cfg.rxCapacity → Inv (powerOn p0 p1 s)) ∧ Inv State.reset

/-- R117: what the reset procedure leaves, from any state before it. -/
def Obligations.PowerOnLeavesResetValues : Prop :=
  ∀ (s : State) (p0 p1 : PinWord), ∃ t, runTurn (.powerOn p0 p1) s = .next t ∧
    t.pins = { cart := p0, angle := p1 } ∧
    (∀ e, (t.enc.get e).phase = t.pins.get e ∧ (t.enc.get e).steps.toInt = 0 ∧ (position t e).toInt = 0 ∧
      t.irq.get e = false) ∧
    (s.cfg.lastSentInit = .none → t.lastSent = none) ∧
    (s.cfg.lastSentInit = .zero → t.lastSent = some { cart := 0, angle := 0 }) ∧
    t.led = false ∧ t.rx = [] ∧ t.tx = [] ∧ t.motor = [] ∧ t.loop.phase = .l0 ∧ t.cfg = s.cfg

/-- `State.reset` has the reset values of R118; its pin levels are the model's choice (log entry 7). -/
def Obligations.ResetStateHasResetValues : Prop :=
  (∀ e, (State.reset.enc.get e).phase = State.reset.pins.get e ∧ (State.reset.enc.get e).steps.toInt = 0 ∧
    (position State.reset e).toInt = 0 ∧ State.reset.irq.get e = false) ∧
  State.reset.lastSent = resetLastSent State.reset.cfg.lastSentInit ∧ State.reset.led = false ∧
  State.reset.rx = [] ∧ State.reset.tx = [] ∧ State.reset.motor = [] ∧ State.reset.loop.phase = .l0

/-- R116: nothing of the block's state survives a power-on. (The parameters of the built block and the interleaving
still to come are no state of it, log entries 1 and 3; that the two samples go to 0 is the model's choice, log
entry 6.) -/
def Obligations.PowerOnForgetsEverything : Prop :=
  ∀ (s s' : State) (p0 p1 : PinWord), SameSetup s s' → runTurn (.powerOn p0 p1) s = runTurn (.powerOn p0 p1) s'

/-- R30: no step of any agent and no instruction changes a parameter of the block. -/
def Obligations.ParametersAreFixed : Prop :=
  (∀ s t : State, step s = .next t → t.cfg = s.cfg) ∧
  (∀ (i : Instr) (s t : State), exec i s = .next t → t.cfg = s.cfg)

/-- R112, R113: an instruction of an interrupt handler, TICK of QD[e] or a row whose word is one of QD[e], writes
`enc[e]` and `irq[e]` of its own encoder and nothing else; every other instruction writes no encoder, no flag and no
pin. -/
def Obligations.ContextsWriteTheirOwnState : Prop :=
  ∀ (i : Instr) (s t : State), exec i s = .next t →
    (∀ e, (i = .tick e ∨ ∃ w, encode i = some (.trans e w)) →
      (∀ f, f ≠ e → t.enc.get f = s.enc.get f ∧ t.irq.get f = s.irq.get f) ∧
      t.pins = s.pins ∧ SameMain s t ∧ SameSetup s t ∧ t.ret = s.ret) ∧
    ((∀ e, i ≠ .tick e ∧ ∀ w, encode i ≠ some (.trans e w)) → SameEncoders s t)

/-- R28: a delivered byte stands at the tail of `rx`, or is lost when `rx` is full; nothing else changes. -/
def Obligations.DeliveredByteIsQueuedOrLost : Prop :=
  ∀ (s : State) (b : Byte), ∃ t, runTurn (.deliver b) s = .next t ∧
    (s.rx.length < s.cfg.rxCapacity → t.rx = s.rx ++ [b]) ∧ (s.cfg.rxCapacity ≤ s.rx.length → t = s) ∧
    t.motor = s.motor ∧ t.led = s.led ∧ t.ledHistory = s.ledHistory ∧
    SameEncoders s t ∧ SameTelemetry s t ∧ SameLoop s t ∧ SameSetup s t ∧ t.ret = s.ret

/-- R21: a change of either pin of an encoder sets its pending flag and no other, whatever was pending; the same
levels again change nothing; the TICK of that encoder clears it, however many changes set it, and nothing else but
power-on does; after power-on it is 0. -/
def Obligations.PinChangeSetsThePendingFlag : Prop :=
  (∀ (s : State) (e : Encoder) (p : PinWord), ∃ t, runTurn (.setPins e p) s = .next t ∧ t.pins.get e = p ∧
    (p ≠ s.pins.get e → t.irq.get e = true) ∧ (p = s.pins.get e → t = s) ∧
    (∀ f, f ≠ e → t.pins.get f = s.pins.get f ∧ t.irq.get f = s.irq.get f) ∧
    t.enc = s.enc ∧ SameMain s t ∧ SameSetup s t ∧ t.ret = s.ret) ∧
  (∀ (s : State) (e : Encoder), ∃ t, runTurn (.tick e) s = .next t ∧ t.irq.get e = false) ∧
  (∀ (turn : Turn) (s t : State) (e : Encoder), runTurn turn s = .next t → s.irq.get e = true →
    t.irq.get e = false → turn = .tick e ∨ ∃ p q, turn = .powerOn p q) ∧
  (∀ (s : State) (e : Encoder) (p q : PinWord), ∃ t, runTurn (.powerOn p q) s = .next t ∧ t.irq.get e = false)

/-- R26, R27, R80, R82: the logs are only appended to, except by power-on: the outbound log by the one whole frame of the
snapshot of the two samples, in MAIN's step at L2, and the motor log by one event, in MAIN's step at L3. -/
def Obligations.LogsOnlyGrow : Prop :=
  ∀ (turn : Turn) (s t : State), runTurn turn s = .next t → (∀ p q, turn ≠ .powerOn p q) →
    (∃ l, t.tx = s.tx ++ l ∧ (l = [] ∨ (turn = .main ∧ s.loop.phase = .l2 ∧ l = txFrame (snapshotOf s)))) ∧
    (∃ l, t.motor = s.motor ++ l ∧ (l = [] ∨ (turn = .main ∧ s.loop.phase = .l3 ∧ ∃ v, l = [v])))

/-- R99: in an admissible run every pending interrupt is serviced, and MAIN comes round to L0 again and again. -/
def Obligations.AdmissibleRunsMakeProgress : Prop :=
  ∀ (turn : Nat → Turn) (run : Nat → State), Admissible turn run →
    (∀ n e, (run n).irq.get e = true → ∃ m, n ≤ m ∧ (run m).irq.get e = false) ∧
    (∀ n, ∃ m, n ≤ m ∧ (run m).loop.phase = .l0)
end

