-- ==== Sys2Proof/Laws/State.lean ====
section
/-! SUPPORT. One lemma per field per update of the state, true by rfl, and the laws of a value per encoder. -/

namespace Sys2Proof

theorem PerEncoder.get_set {α : Type} (p : PerEncoder α) (e f : Encoder) (a : α) :
    (p.set e a).get f = if f = e then a else p.get f := by
  cases e <;> cases f <;> rfl

@[simp] theorem PerEncoder.get_set_same {α : Type} (p : PerEncoder α) (e : Encoder) (a : α) :
    (p.set e a).get e = a := by
  cases e <;> rfl

@[simp] theorem PerEncoder.get_set_other {α : Type} (p : PerEncoder α) {e f : Encoder} (h : f ≠ e) (a : α) :
    (p.set e a).get f = p.get f := by
  simp [PerEncoder.get_set, h]

@[simp] theorem PerEncoder.set_get {α : Type} (p : PerEncoder α) (e : Encoder) : p.set e (p.get e) = p := by
  cases e <;> rfl

@[simp] theorem PerEncoder.get_cart {α : Type} (p : PerEncoder α) : p.get .cart = p.cart := rfl

@[simp] theorem PerEncoder.get_angle {α : Type} (p : PerEncoder α) : p.get .angle = p.angle := rfl

theorem PerEncoder.ext_get {α : Type} {p q : PerEncoder α} (h : ∀ e, p.get e = q.get e) : p = q := by
  cases p; cases q
  have h0 := h .cart
  have h1 := h .angle
  simp_all [PerEncoder.get]

end Sys2Proof

namespace Sys2Proof.Machine.State

@[simp] theorem setPins_cfg (s : State) (e : Encoder) (p : PinWord) : (s.setPins e p).cfg = s.cfg := rfl
@[simp] theorem setPins_pins (s : State) (e : Encoder) (p : PinWord) : (s.setPins e p).pins = s.pins.set e p := rfl
@[simp] theorem setPins_enc (s : State) (e : Encoder) (p : PinWord) : (s.setPins e p).enc = s.enc := rfl
@[simp] theorem setPins_irq (s : State) (e : Encoder) (p : PinWord) : (s.setPins e p).irq = s.irq := rfl
@[simp] theorem setPins_lastSent (s : State) (e : Encoder) (p : PinWord) : (s.setPins e p).lastSent = s.lastSent := rfl
@[simp] theorem setPins_loop (s : State) (e : Encoder) (p : PinWord) : (s.setPins e p).loop = s.loop := rfl
@[simp] theorem setPins_led (s : State) (e : Encoder) (p : PinWord) : (s.setPins e p).led = s.led := rfl
@[simp] theorem setPins_ledHistory (s : State) (e : Encoder) (p : PinWord) : (s.setPins e p).ledHistory = s.ledHistory := rfl
@[simp] theorem setPins_rx (s : State) (e : Encoder) (p : PinWord) : (s.setPins e p).rx = s.rx := rfl
@[simp] theorem setPins_tx (s : State) (e : Encoder) (p : PinWord) : (s.setPins e p).tx = s.tx := rfl
@[simp] theorem setPins_motor (s : State) (e : Encoder) (p : PinWord) : (s.setPins e p).motor = s.motor := rfl
@[simp] theorem setPins_script (s : State) (e : Encoder) (p : PinWord) : (s.setPins e p).script = s.script := rfl
@[simp] theorem setPins_turns (s : State) (e : Encoder) (p : PinWord) : (s.setPins e p).turns = s.turns := rfl
@[simp] theorem setPins_ret (s : State) (e : Encoder) (p : PinWord) : (s.setPins e p).ret = s.ret := rfl

@[simp] theorem setEnc_cfg (s : State) (e : Encoder) (v : EncoderState) : (s.setEnc e v).cfg = s.cfg := rfl
@[simp] theorem setEnc_pins (s : State) (e : Encoder) (v : EncoderState) : (s.setEnc e v).pins = s.pins := rfl
@[simp] theorem setEnc_enc (s : State) (e : Encoder) (v : EncoderState) : (s.setEnc e v).enc = s.enc.set e v := rfl
@[simp] theorem setEnc_irq (s : State) (e : Encoder) (v : EncoderState) : (s.setEnc e v).irq = s.irq := rfl
@[simp] theorem setEnc_lastSent (s : State) (e : Encoder) (v : EncoderState) : (s.setEnc e v).lastSent = s.lastSent := rfl
@[simp] theorem setEnc_loop (s : State) (e : Encoder) (v : EncoderState) : (s.setEnc e v).loop = s.loop := rfl
@[simp] theorem setEnc_led (s : State) (e : Encoder) (v : EncoderState) : (s.setEnc e v).led = s.led := rfl
@[simp] theorem setEnc_ledHistory (s : State) (e : Encoder) (v : EncoderState) : (s.setEnc e v).ledHistory = s.ledHistory := rfl
@[simp] theorem setEnc_rx (s : State) (e : Encoder) (v : EncoderState) : (s.setEnc e v).rx = s.rx := rfl
@[simp] theorem setEnc_tx (s : State) (e : Encoder) (v : EncoderState) : (s.setEnc e v).tx = s.tx := rfl
@[simp] theorem setEnc_motor (s : State) (e : Encoder) (v : EncoderState) : (s.setEnc e v).motor = s.motor := rfl
@[simp] theorem setEnc_script (s : State) (e : Encoder) (v : EncoderState) : (s.setEnc e v).script = s.script := rfl
@[simp] theorem setEnc_turns (s : State) (e : Encoder) (v : EncoderState) : (s.setEnc e v).turns = s.turns := rfl
@[simp] theorem setEnc_ret (s : State) (e : Encoder) (v : EncoderState) : (s.setEnc e v).ret = s.ret := rfl

@[simp] theorem setIrq_cfg (s : State) (e : Encoder) (b : Bool) : (s.setIrq e b).cfg = s.cfg := rfl
@[simp] theorem setIrq_pins (s : State) (e : Encoder) (b : Bool) : (s.setIrq e b).pins = s.pins := rfl
@[simp] theorem setIrq_enc (s : State) (e : Encoder) (b : Bool) : (s.setIrq e b).enc = s.enc := rfl
@[simp] theorem setIrq_irq (s : State) (e : Encoder) (b : Bool) : (s.setIrq e b).irq = s.irq.set e b := rfl
@[simp] theorem setIrq_lastSent (s : State) (e : Encoder) (b : Bool) : (s.setIrq e b).lastSent = s.lastSent := rfl
@[simp] theorem setIrq_loop (s : State) (e : Encoder) (b : Bool) : (s.setIrq e b).loop = s.loop := rfl
@[simp] theorem setIrq_led (s : State) (e : Encoder) (b : Bool) : (s.setIrq e b).led = s.led := rfl
@[simp] theorem setIrq_ledHistory (s : State) (e : Encoder) (b : Bool) : (s.setIrq e b).ledHistory = s.ledHistory := rfl
@[simp] theorem setIrq_rx (s : State) (e : Encoder) (b : Bool) : (s.setIrq e b).rx = s.rx := rfl
@[simp] theorem setIrq_tx (s : State) (e : Encoder) (b : Bool) : (s.setIrq e b).tx = s.tx := rfl
@[simp] theorem setIrq_motor (s : State) (e : Encoder) (b : Bool) : (s.setIrq e b).motor = s.motor := rfl
@[simp] theorem setIrq_script (s : State) (e : Encoder) (b : Bool) : (s.setIrq e b).script = s.script := rfl
@[simp] theorem setIrq_turns (s : State) (e : Encoder) (b : Bool) : (s.setIrq e b).turns = s.turns := rfl
@[simp] theorem setIrq_ret (s : State) (e : Encoder) (b : Bool) : (s.setIrq e b).ret = s.ret := rfl

@[simp] theorem setLastSent_cfg (s : State) (o : Option Snapshot) : (s.setLastSent o).cfg = s.cfg := rfl
@[simp] theorem setLastSent_pins (s : State) (o : Option Snapshot) : (s.setLastSent o).pins = s.pins := rfl
@[simp] theorem setLastSent_enc (s : State) (o : Option Snapshot) : (s.setLastSent o).enc = s.enc := rfl
@[simp] theorem setLastSent_irq (s : State) (o : Option Snapshot) : (s.setLastSent o).irq = s.irq := rfl
@[simp] theorem setLastSent_lastSent (s : State) (o : Option Snapshot) : (s.setLastSent o).lastSent = o := rfl
@[simp] theorem setLastSent_loop (s : State) (o : Option Snapshot) : (s.setLastSent o).loop = s.loop := rfl
@[simp] theorem setLastSent_led (s : State) (o : Option Snapshot) : (s.setLastSent o).led = s.led := rfl
@[simp] theorem setLastSent_ledHistory (s : State) (o : Option Snapshot) : (s.setLastSent o).ledHistory = s.ledHistory := rfl
@[simp] theorem setLastSent_rx (s : State) (o : Option Snapshot) : (s.setLastSent o).rx = s.rx := rfl
@[simp] theorem setLastSent_tx (s : State) (o : Option Snapshot) : (s.setLastSent o).tx = s.tx := rfl
@[simp] theorem setLastSent_motor (s : State) (o : Option Snapshot) : (s.setLastSent o).motor = s.motor := rfl
@[simp] theorem setLastSent_script (s : State) (o : Option Snapshot) : (s.setLastSent o).script = s.script := rfl
@[simp] theorem setLastSent_turns (s : State) (o : Option Snapshot) : (s.setLastSent o).turns = s.turns := rfl
@[simp] theorem setLastSent_ret (s : State) (o : Option Snapshot) : (s.setLastSent o).ret = s.ret := rfl

@[simp] theorem setLoopPhase_cfg (s : State) (p : LoopPhase) : (s.setLoopPhase p).cfg = s.cfg := rfl
@[simp] theorem setLoopPhase_pins (s : State) (p : LoopPhase) : (s.setLoopPhase p).pins = s.pins := rfl
@[simp] theorem setLoopPhase_enc (s : State) (p : LoopPhase) : (s.setLoopPhase p).enc = s.enc := rfl
@[simp] theorem setLoopPhase_irq (s : State) (p : LoopPhase) : (s.setLoopPhase p).irq = s.irq := rfl
@[simp] theorem setLoopPhase_lastSent (s : State) (p : LoopPhase) : (s.setLoopPhase p).lastSent = s.lastSent := rfl
@[simp] theorem setLoopPhase_loop (s : State) (p : LoopPhase) : (s.setLoopPhase p).loop = { s.loop with phase := p } := rfl
@[simp] theorem setLoopPhase_led (s : State) (p : LoopPhase) : (s.setLoopPhase p).led = s.led := rfl
@[simp] theorem setLoopPhase_ledHistory (s : State) (p : LoopPhase) : (s.setLoopPhase p).ledHistory = s.ledHistory := rfl
@[simp] theorem setLoopPhase_rx (s : State) (p : LoopPhase) : (s.setLoopPhase p).rx = s.rx := rfl
@[simp] theorem setLoopPhase_tx (s : State) (p : LoopPhase) : (s.setLoopPhase p).tx = s.tx := rfl
@[simp] theorem setLoopPhase_motor (s : State) (p : LoopPhase) : (s.setLoopPhase p).motor = s.motor := rfl
@[simp] theorem setLoopPhase_script (s : State) (p : LoopPhase) : (s.setLoopPhase p).script = s.script := rfl
@[simp] theorem setLoopPhase_turns (s : State) (p : LoopPhase) : (s.setLoopPhase p).turns = s.turns := rfl
@[simp] theorem setLoopPhase_ret (s : State) (p : LoopPhase) : (s.setLoopPhase p).ret = s.ret := rfl

@[simp] theorem setLoopCart_cfg (s : State) (c : Count) : (s.setLoopCart c).cfg = s.cfg := rfl
@[simp] theorem setLoopCart_pins (s : State) (c : Count) : (s.setLoopCart c).pins = s.pins := rfl
@[simp] theorem setLoopCart_enc (s : State) (c : Count) : (s.setLoopCart c).enc = s.enc := rfl
@[simp] theorem setLoopCart_irq (s : State) (c : Count) : (s.setLoopCart c).irq = s.irq := rfl
@[simp] theorem setLoopCart_lastSent (s : State) (c : Count) : (s.setLoopCart c).lastSent = s.lastSent := rfl
@[simp] theorem setLoopCart_loop (s : State) (c : Count) : (s.setLoopCart c).loop = { s.loop with cart := c } := rfl
@[simp] theorem setLoopCart_led (s : State) (c : Count) : (s.setLoopCart c).led = s.led := rfl
@[simp] theorem setLoopCart_ledHistory (s : State) (c : Count) : (s.setLoopCart c).ledHistory = s.ledHistory := rfl
@[simp] theorem setLoopCart_rx (s : State) (c : Count) : (s.setLoopCart c).rx = s.rx := rfl
@[simp] theorem setLoopCart_tx (s : State) (c : Count) : (s.setLoopCart c).tx = s.tx := rfl
@[simp] theorem setLoopCart_motor (s : State) (c : Count) : (s.setLoopCart c).motor = s.motor := rfl
@[simp] theorem setLoopCart_script (s : State) (c : Count) : (s.setLoopCart c).script = s.script := rfl
@[simp] theorem setLoopCart_turns (s : State) (c : Count) : (s.setLoopCart c).turns = s.turns := rfl
@[simp] theorem setLoopCart_ret (s : State) (c : Count) : (s.setLoopCart c).ret = s.ret := rfl

@[simp] theorem setLoopAngleRaw_cfg (s : State) (c : Count) : (s.setLoopAngleRaw c).cfg = s.cfg := rfl
@[simp] theorem setLoopAngleRaw_pins (s : State) (c : Count) : (s.setLoopAngleRaw c).pins = s.pins := rfl
@[simp] theorem setLoopAngleRaw_enc (s : State) (c : Count) : (s.setLoopAngleRaw c).enc = s.enc := rfl
@[simp] theorem setLoopAngleRaw_irq (s : State) (c : Count) : (s.setLoopAngleRaw c).irq = s.irq := rfl
@[simp] theorem setLoopAngleRaw_lastSent (s : State) (c : Count) : (s.setLoopAngleRaw c).lastSent = s.lastSent := rfl
@[simp] theorem setLoopAngleRaw_loop (s : State) (c : Count) : (s.setLoopAngleRaw c).loop = { s.loop with angleRaw := c } := rfl
@[simp] theorem setLoopAngleRaw_led (s : State) (c : Count) : (s.setLoopAngleRaw c).led = s.led := rfl
@[simp] theorem setLoopAngleRaw_ledHistory (s : State) (c : Count) : (s.setLoopAngleRaw c).ledHistory = s.ledHistory := rfl
@[simp] theorem setLoopAngleRaw_rx (s : State) (c : Count) : (s.setLoopAngleRaw c).rx = s.rx := rfl
@[simp] theorem setLoopAngleRaw_tx (s : State) (c : Count) : (s.setLoopAngleRaw c).tx = s.tx := rfl
@[simp] theorem setLoopAngleRaw_motor (s : State) (c : Count) : (s.setLoopAngleRaw c).motor = s.motor := rfl
@[simp] theorem setLoopAngleRaw_script (s : State) (c : Count) : (s.setLoopAngleRaw c).script = s.script := rfl
@[simp] theorem setLoopAngleRaw_turns (s : State) (c : Count) : (s.setLoopAngleRaw c).turns = s.turns := rfl
@[simp] theorem setLoopAngleRaw_ret (s : State) (c : Count) : (s.setLoopAngleRaw c).ret = s.ret := rfl

@[simp] theorem setLed_cfg (s : State) (b : Bool) : (s.setLed b).cfg = s.cfg := rfl
@[simp] theorem setLed_pins (s : State) (b : Bool) : (s.setLed b).pins = s.pins := rfl
@[simp] theorem setLed_enc (s : State) (b : Bool) : (s.setLed b).enc = s.enc := rfl
@[simp] theorem setLed_irq (s : State) (b : Bool) : (s.setLed b).irq = s.irq := rfl
@[simp] theorem setLed_lastSent (s : State) (b : Bool) : (s.setLed b).lastSent = s.lastSent := rfl
@[simp] theorem setLed_loop (s : State) (b : Bool) : (s.setLed b).loop = s.loop := rfl
@[simp] theorem setLed_led (s : State) (b : Bool) : (s.setLed b).led = b := rfl
@[simp] theorem setLed_ledHistory (s : State) (b : Bool) : (s.setLed b).ledHistory = s.ledHistory := rfl
@[simp] theorem setLed_rx (s : State) (b : Bool) : (s.setLed b).rx = s.rx := rfl
@[simp] theorem setLed_tx (s : State) (b : Bool) : (s.setLed b).tx = s.tx := rfl
@[simp] theorem setLed_motor (s : State) (b : Bool) : (s.setLed b).motor = s.motor := rfl
@[simp] theorem setLed_script (s : State) (b : Bool) : (s.setLed b).script = s.script := rfl
@[simp] theorem setLed_turns (s : State) (b : Bool) : (s.setLed b).turns = s.turns := rfl
@[simp] theorem setLed_ret (s : State) (b : Bool) : (s.setLed b).ret = s.ret := rfl

@[simp] theorem setLedHistory_cfg (s : State) (l : List Bool) : (s.setLedHistory l).cfg = s.cfg := rfl
@[simp] theorem setLedHistory_pins (s : State) (l : List Bool) : (s.setLedHistory l).pins = s.pins := rfl
@[simp] theorem setLedHistory_enc (s : State) (l : List Bool) : (s.setLedHistory l).enc = s.enc := rfl
@[simp] theorem setLedHistory_irq (s : State) (l : List Bool) : (s.setLedHistory l).irq = s.irq := rfl
@[simp] theorem setLedHistory_lastSent (s : State) (l : List Bool) : (s.setLedHistory l).lastSent = s.lastSent := rfl
@[simp] theorem setLedHistory_loop (s : State) (l : List Bool) : (s.setLedHistory l).loop = s.loop := rfl
@[simp] theorem setLedHistory_led (s : State) (l : List Bool) : (s.setLedHistory l).led = s.led := rfl
@[simp] theorem setLedHistory_ledHistory (s : State) (l : List Bool) : (s.setLedHistory l).ledHistory = l := rfl
@[simp] theorem setLedHistory_rx (s : State) (l : List Bool) : (s.setLedHistory l).rx = s.rx := rfl
@[simp] theorem setLedHistory_tx (s : State) (l : List Bool) : (s.setLedHistory l).tx = s.tx := rfl
@[simp] theorem setLedHistory_motor (s : State) (l : List Bool) : (s.setLedHistory l).motor = s.motor := rfl
@[simp] theorem setLedHistory_script (s : State) (l : List Bool) : (s.setLedHistory l).script = s.script := rfl
@[simp] theorem setLedHistory_turns (s : State) (l : List Bool) : (s.setLedHistory l).turns = s.turns := rfl
@[simp] theorem setLedHistory_ret (s : State) (l : List Bool) : (s.setLedHistory l).ret = s.ret := rfl

@[simp] theorem setRx_cfg (s : State) (l : List Byte) : (s.setRx l).cfg = s.cfg := rfl
@[simp] theorem setRx_pins (s : State) (l : List Byte) : (s.setRx l).pins = s.pins := rfl
@[simp] theorem setRx_enc (s : State) (l : List Byte) : (s.setRx l).enc = s.enc := rfl
@[simp] theorem setRx_irq (s : State) (l : List Byte) : (s.setRx l).irq = s.irq := rfl
@[simp] theorem setRx_lastSent (s : State) (l : List Byte) : (s.setRx l).lastSent = s.lastSent := rfl
@[simp] theorem setRx_loop (s : State) (l : List Byte) : (s.setRx l).loop = s.loop := rfl
@[simp] theorem setRx_led (s : State) (l : List Byte) : (s.setRx l).led = s.led := rfl
@[simp] theorem setRx_ledHistory (s : State) (l : List Byte) : (s.setRx l).ledHistory = s.ledHistory := rfl
@[simp] theorem setRx_rx (s : State) (l : List Byte) : (s.setRx l).rx = l := rfl
@[simp] theorem setRx_tx (s : State) (l : List Byte) : (s.setRx l).tx = s.tx := rfl
@[simp] theorem setRx_motor (s : State) (l : List Byte) : (s.setRx l).motor = s.motor := rfl
@[simp] theorem setRx_script (s : State) (l : List Byte) : (s.setRx l).script = s.script := rfl
@[simp] theorem setRx_turns (s : State) (l : List Byte) : (s.setRx l).turns = s.turns := rfl
@[simp] theorem setRx_ret (s : State) (l : List Byte) : (s.setRx l).ret = s.ret := rfl

@[simp] theorem setTx_cfg (s : State) (l : List Byte) : (s.setTx l).cfg = s.cfg := rfl
@[simp] theorem setTx_pins (s : State) (l : List Byte) : (s.setTx l).pins = s.pins := rfl
@[simp] theorem setTx_enc (s : State) (l : List Byte) : (s.setTx l).enc = s.enc := rfl
@[simp] theorem setTx_irq (s : State) (l : List Byte) : (s.setTx l).irq = s.irq := rfl
@[simp] theorem setTx_lastSent (s : State) (l : List Byte) : (s.setTx l).lastSent = s.lastSent := rfl
@[simp] theorem setTx_loop (s : State) (l : List Byte) : (s.setTx l).loop = s.loop := rfl
@[simp] theorem setTx_led (s : State) (l : List Byte) : (s.setTx l).led = s.led := rfl
@[simp] theorem setTx_ledHistory (s : State) (l : List Byte) : (s.setTx l).ledHistory = s.ledHistory := rfl
@[simp] theorem setTx_rx (s : State) (l : List Byte) : (s.setTx l).rx = s.rx := rfl
@[simp] theorem setTx_tx (s : State) (l : List Byte) : (s.setTx l).tx = l := rfl
@[simp] theorem setTx_motor (s : State) (l : List Byte) : (s.setTx l).motor = s.motor := rfl
@[simp] theorem setTx_script (s : State) (l : List Byte) : (s.setTx l).script = s.script := rfl
@[simp] theorem setTx_turns (s : State) (l : List Byte) : (s.setTx l).turns = s.turns := rfl
@[simp] theorem setTx_ret (s : State) (l : List Byte) : (s.setTx l).ret = s.ret := rfl

@[simp] theorem setMotor_cfg (s : State) (l : List Int) : (s.setMotor l).cfg = s.cfg := rfl
@[simp] theorem setMotor_pins (s : State) (l : List Int) : (s.setMotor l).pins = s.pins := rfl
@[simp] theorem setMotor_enc (s : State) (l : List Int) : (s.setMotor l).enc = s.enc := rfl
@[simp] theorem setMotor_irq (s : State) (l : List Int) : (s.setMotor l).irq = s.irq := rfl
@[simp] theorem setMotor_lastSent (s : State) (l : List Int) : (s.setMotor l).lastSent = s.lastSent := rfl
@[simp] theorem setMotor_loop (s : State) (l : List Int) : (s.setMotor l).loop = s.loop := rfl
@[simp] theorem setMotor_led (s : State) (l : List Int) : (s.setMotor l).led = s.led := rfl
@[simp] theorem setMotor_ledHistory (s : State) (l : List Int) : (s.setMotor l).ledHistory = s.ledHistory := rfl
@[simp] theorem setMotor_rx (s : State) (l : List Int) : (s.setMotor l).rx = s.rx := rfl
@[simp] theorem setMotor_tx (s : State) (l : List Int) : (s.setMotor l).tx = s.tx := rfl
@[simp] theorem setMotor_motor (s : State) (l : List Int) : (s.setMotor l).motor = l := rfl
@[simp] theorem setMotor_script (s : State) (l : List Int) : (s.setMotor l).script = s.script := rfl
@[simp] theorem setMotor_turns (s : State) (l : List Int) : (s.setMotor l).turns = s.turns := rfl
@[simp] theorem setMotor_ret (s : State) (l : List Int) : (s.setMotor l).ret = s.ret := rfl

@[simp] theorem setScript_cfg (s : State) (l : List Turn) : (s.setScript l).cfg = s.cfg := rfl
@[simp] theorem setScript_pins (s : State) (l : List Turn) : (s.setScript l).pins = s.pins := rfl
@[simp] theorem setScript_enc (s : State) (l : List Turn) : (s.setScript l).enc = s.enc := rfl
@[simp] theorem setScript_irq (s : State) (l : List Turn) : (s.setScript l).irq = s.irq := rfl
@[simp] theorem setScript_lastSent (s : State) (l : List Turn) : (s.setScript l).lastSent = s.lastSent := rfl
@[simp] theorem setScript_loop (s : State) (l : List Turn) : (s.setScript l).loop = s.loop := rfl
@[simp] theorem setScript_led (s : State) (l : List Turn) : (s.setScript l).led = s.led := rfl
@[simp] theorem setScript_ledHistory (s : State) (l : List Turn) : (s.setScript l).ledHistory = s.ledHistory := rfl
@[simp] theorem setScript_rx (s : State) (l : List Turn) : (s.setScript l).rx = s.rx := rfl
@[simp] theorem setScript_tx (s : State) (l : List Turn) : (s.setScript l).tx = s.tx := rfl
@[simp] theorem setScript_motor (s : State) (l : List Turn) : (s.setScript l).motor = s.motor := rfl
@[simp] theorem setScript_script (s : State) (l : List Turn) : (s.setScript l).script = l := rfl
@[simp] theorem setScript_turns (s : State) (l : List Turn) : (s.setScript l).turns = s.turns := rfl
@[simp] theorem setScript_ret (s : State) (l : List Turn) : (s.setScript l).ret = s.ret := rfl

@[simp] theorem setTurns_cfg (s : State) (n : Nat) : (s.setTurns n).cfg = s.cfg := rfl
@[simp] theorem setTurns_pins (s : State) (n : Nat) : (s.setTurns n).pins = s.pins := rfl
@[simp] theorem setTurns_enc (s : State) (n : Nat) : (s.setTurns n).enc = s.enc := rfl
@[simp] theorem setTurns_irq (s : State) (n : Nat) : (s.setTurns n).irq = s.irq := rfl
@[simp] theorem setTurns_lastSent (s : State) (n : Nat) : (s.setTurns n).lastSent = s.lastSent := rfl
@[simp] theorem setTurns_loop (s : State) (n : Nat) : (s.setTurns n).loop = s.loop := rfl
@[simp] theorem setTurns_led (s : State) (n : Nat) : (s.setTurns n).led = s.led := rfl
@[simp] theorem setTurns_ledHistory (s : State) (n : Nat) : (s.setTurns n).ledHistory = s.ledHistory := rfl
@[simp] theorem setTurns_rx (s : State) (n : Nat) : (s.setTurns n).rx = s.rx := rfl
@[simp] theorem setTurns_tx (s : State) (n : Nat) : (s.setTurns n).tx = s.tx := rfl
@[simp] theorem setTurns_motor (s : State) (n : Nat) : (s.setTurns n).motor = s.motor := rfl
@[simp] theorem setTurns_script (s : State) (n : Nat) : (s.setTurns n).script = s.script := rfl
@[simp] theorem setTurns_turns (s : State) (n : Nat) : (s.setTurns n).turns = n := rfl
@[simp] theorem setTurns_ret (s : State) (n : Nat) : (s.setTurns n).ret = s.ret := rfl

@[simp] theorem setRet_cfg (s : State) (v : OpValue) : (s.setRet v).cfg = s.cfg := rfl
@[simp] theorem setRet_pins (s : State) (v : OpValue) : (s.setRet v).pins = s.pins := rfl
@[simp] theorem setRet_enc (s : State) (v : OpValue) : (s.setRet v).enc = s.enc := rfl
@[simp] theorem setRet_irq (s : State) (v : OpValue) : (s.setRet v).irq = s.irq := rfl
@[simp] theorem setRet_lastSent (s : State) (v : OpValue) : (s.setRet v).lastSent = s.lastSent := rfl
@[simp] theorem setRet_loop (s : State) (v : OpValue) : (s.setRet v).loop = s.loop := rfl
@[simp] theorem setRet_led (s : State) (v : OpValue) : (s.setRet v).led = s.led := rfl
@[simp] theorem setRet_ledHistory (s : State) (v : OpValue) : (s.setRet v).ledHistory = s.ledHistory := rfl
@[simp] theorem setRet_rx (s : State) (v : OpValue) : (s.setRet v).rx = s.rx := rfl
@[simp] theorem setRet_tx (s : State) (v : OpValue) : (s.setRet v).tx = s.tx := rfl
@[simp] theorem setRet_motor (s : State) (v : OpValue) : (s.setRet v).motor = s.motor := rfl
@[simp] theorem setRet_script (s : State) (v : OpValue) : (s.setRet v).script = s.script := rfl
@[simp] theorem setRet_turns (s : State) (v : OpValue) : (s.setRet v).turns = s.turns := rfl
@[simp] theorem setRet_ret (s : State) (v : OpValue) : (s.setRet v).ret = v := rfl

end Sys2Proof.Machine.State
end

