-- ==== Sys2Proof/Laws/Ops.lean ====
section
/-! SUPPORT. For each shared operation, what it can do, said once. -/

namespace Sys2Proof.Machine

@[simp] theorem andThen_next {α β : Type} (a : α) (f : α → Host.Outcome β Fault Refusal) :
    andThen (.next a) f = f a := rfl

@[simp] theorem andThen_fault {α β : Type} (r : Fault) (f : α → Host.Outcome β Fault Refusal) :
    andThen (.fault r) f = .fault r := rfl

@[simp] theorem andThen_refused {α β : Type} (r : Refusal) (f : α → Host.Outcome β Fault Refusal) :
    andThen (.refused r) f = .refused r := rfl

theorem andThen_eq_next {α β : Type} {o : Host.Outcome α Fault Refusal} {f : α → Host.Outcome β Fault Refusal}
    {b : β} (h : andThen o f = .next b) : ∃ a, o = .next a ∧ f a = .next b := by
  cases o with
  | next a => exact ⟨a, rfl, h⟩
  | fault r => cases h
  | refused r => cases h

theorem advanceEncoder_phase (p : Params) (d : Int) (new : PinWord) (v : EncoderState) :
    (advanceEncoder p d new v).phase = new := rfl

theorem advanceEncoder_steps (p : Params) (d : Int) (new : PinWord) (v : EncoderState) :
    (advanceEncoder p d new v).steps = v.steps + BitVec.ofInt 32 d := rfl

theorem advanceEncoder_latched (p : Params) (d : Int) (new : PinWord) (v : EncoderState) :
    (advanceEncoder p d new v).latched =
      if reloads p new then (v.steps + BitVec.ofInt 32 d).sshiftRight 2 else v.latched := rfl

/-- A serviced TICK clears its flag, advances its encoder, and does nothing else. -/
theorem serviceTick_eq (e : Encoder) (d : Int) (new : PinWord) (s : State) :
    serviceTick e d new s = (s.setIrq e false).setEnc e (advanceEncoder s.cfg d new (s.enc.get e)) := rfl

theorem rxRead_cons {s : State} {b : Byte} {rest : List Byte} (h : s.rx = b :: rest) :
    rxRead s = .next (b, s.setRx rest) := by
  simp [rxRead, h]

theorem rxRead_nil {s : State} (h : s.rx = []) : rxRead s = .fault .rxUnderflow := by
  simp [rxRead, h]

/-- If `RxRead` answers, it removed the head byte and nothing else. -/
theorem rxRead_eq_next {s : State} {r : Byte × State} (h : rxRead s = .next r) :
    s.rx = r.1 :: r.2.rx ∧ r.2 = s.setRx r.2.rx := by
  unfold rxRead at h
  split at h
  · cases h
  · cases h
    exact ⟨by assumption, rfl⟩

@[simp] theorem setRx_setRx (s : State) (l m : List Byte) : (s.setRx l).setRx m = s.setRx m := rfl

theorem decodeSpeed_cons {s : State} {b1 b2 : Byte} {rest : List Byte} (h : s.rx = b1 :: b2 :: rest) :
    decodeSpeed s = .next (applySpeed (speedOf b1 b2) (s.setRx rest)) := by
  simp [decodeSpeed, rxRead, h]

/-- The three outcomes of CMD_POLL: too few bytes, a head byte that is dropped, a frame that is decoded. -/
theorem pollCommand_cases (s : State) :
    (s.rx.length < 3 ∧ pollCommand s = .next s) ∨
    (∃ b0 b1 b2 rest, s.rx = b0 :: b1 :: b2 :: rest ∧ b0 ≠ Config.rxSync ∧
      pollCommand s = .next (s.setRx (b1 :: b2 :: rest))) ∨
    (∃ b1 b2 rest, s.rx = Config.rxSync :: b1 :: b2 :: rest ∧
      pollCommand s = .next (applySpeed (speedOf b1 b2) (s.setRx rest))) := by
  rcases h : s.rx with _ | ⟨b0, _ | ⟨b1, _ | ⟨b2, rest⟩⟩⟩
  · exact .inl ⟨by simp, by simp [pollCommand, rxAvail, h, Config.rxFrameLen, waitForBytes]⟩
  · exact .inl ⟨by simp, by simp [pollCommand, rxAvail, h, Config.rxFrameLen, waitForBytes]⟩
  · exact .inl ⟨by simp, by simp [pollCommand, rxAvail, h, Config.rxFrameLen, waitForBytes]⟩
  · refine .inr ?_
    by_cases hb : b0 = Config.rxSync
    · subst hb
      refine .inr ⟨b1, b2, rest, rfl, ?_⟩
      simp [pollCommand, rxAvail, h, Config.rxFrameLen, rxRead_cons h,
        decodeSpeed_cons (s := s.setRx (b1 :: b2 :: rest)) rfl]
    · refine .inl ⟨b0, b1, b2, rest, rfl, hb, ?_⟩
      simp [pollCommand, rxAvail, h, Config.rxFrameLen, rxRead_cons h, hb, dropByte]

/-- CMD_POLL always answers. -/
theorem pollCommand_next (s : State) : ∃ t, pollCommand s = .next t := by
  rcases pollCommand_cases s with ⟨_, h⟩ | ⟨_, _, _, _, _, _, h⟩ | ⟨_, _, _, _, h⟩ <;> exact ⟨_, h⟩

/-- MAYBE_SEND either finds its snapshot already sent and does nothing, or sends one frame and records it. -/
theorem maybeSend_cases (t : Snapshot) (s : State) :
    (s.lastSent = some t ∧ maybeSend t s = s) ∨
    (s.lastSent ≠ some t ∧ maybeSend t s = (s.setTx (s.tx ++ txFrame t)).setLastSent (some t)) := by
  rcases h : s.lastSent with _ | u
  · exact .inr ⟨by simp, by simp [maybeSend, changed, h, txWrite]⟩
  · by_cases hu : u = t
    · subst hu
      exact .inl ⟨rfl, by simp [maybeSend, changed, h]⟩
    · refine .inr ⟨by simpa using hu, ?_⟩
      have : changed (some u) t = true := by
        cases u; cases t
        simp only [changed, Bool.or_eq_true, bne_iff_ne]
        by_contra hc
        simp_all
      simp [maybeSend, h, this, txWrite]

@[simp] theorem applySpeed_rx (v : Int) (s : State) : (applySpeed v s).rx = s.rx := rfl

@[simp] theorem applySpeed_motor (v : Int) (s : State) : (applySpeed v s).motor = s.motor ++ [v] := rfl

@[simp] theorem applySpeed_led (v : Int) (s : State) : (applySpeed v s).led = ledLevel v := rfl

theorem applySpeed_ledHistory (v : Int) (s : State) :
    (applySpeed v s).ledHistory =
      if s.led = ledLevel v then s.ledHistory else s.ledHistory ++ [ledLevel v] := rfl

/-- LOOP_STEP at each phase. -/
theorem execLoopStep_l0 {s : State} (h : s.loop.phase = .l0) :
    execLoopStep s = .next ((s.setLoopCart (position s .cart)).setLoopPhase .l1) := by
  simp [execLoopStep, h]

theorem execLoopStep_l1 {s : State} (h : s.loop.phase = .l1) :
    execLoopStep s = .next ((s.setLoopAngleRaw (position s .angle)).setLoopPhase .l2) := by
  simp [execLoopStep, h]

theorem execLoopStep_l2 {s : State} (h : s.loop.phase = .l2) :
    execLoopStep s = .next ((maybeSend (snapshotOf s) s).setLoopPhase .l3) := by
  simp [execLoopStep, h]

theorem execLoopStep_l3 {s : State} (h : s.loop.phase = .l3) :
    execLoopStep s = andThen (pollCommand s) fun t => .next (t.setLoopPhase .l0) := by
  simp [execLoopStep, h]

/-- HOST_RX appends the byte or, with no room, loses it. -/
theorem hostDeliver_cases (b : Byte) (s : State) :
    (s.rx.length < s.cfg.rxCapacity ∧ hostDeliver b s = s.setRx (s.rx ++ [b])) ∨
    (s.cfg.rxCapacity ≤ s.rx.length ∧ hostDeliver b s = s) := by
  by_cases h : s.rx.length < s.cfg.rxCapacity
  · exact .inl ⟨h, by simp [hostDeliver, rxHasRoom, rxAvail, h]⟩
  · exact .inr ⟨by omega, by simp [hostDeliver, rxHasRoom, rxAvail, h]⟩

/-- ENV either leaves the pins as they are, or changes them and sets the pending flag. -/
theorem envSetPins_cases (e : Encoder) (p : PinWord) (s : State) :
    (s.pins.get e = p ∧ envSetPins e p s = s) ∨
    (s.pins.get e ≠ p ∧ envSetPins e p s = (s.setPins e p).setIrq e true) := by
  by_cases h : s.pins.get e = p
  · exact .inl ⟨h, by simp [envSetPins, h]⟩
  · exact .inr ⟨h, by simp [envSetPins, h]⟩

/-- The turn given out is the script's head, or with an empty script the free value. -/
theorem nextTurn_cons {s : State} {t : Turn} {rest : List Turn} (h : s.script = t :: rest) :
    nextTurn s = (t, s.setScript rest) := by
  simp [nextTurn, h]

theorem nextTurn_nil {s : State} (h : s.script = []) :
    nextTurn s = (Config.freeTurn s.turns, s.setTurns (s.turns + 1)) := by
  simp [nextTurn, h]

end Sys2Proof.Machine
end

