-- ==== Sys2Proof/Laws/PerInstr.lean ====
section
/-! SUPPORT. Laws of every instruction as syntax: the word that `encode` gives it is of the format that the opcode
table gives its row. -/

namespace Sys2Proof.Laws.EncodeFormat

/-- The word of `i`, if it has one, is of its row's format, and a row without a word is an OP row. -/
def Statement (i : Instr) : Prop := (encode i).elim Format.op codeFormat = instrFormat i

theorem qdNull00to00 (x : Encoder) : Statement (.qdNull00to00 x) := rfl

theorem qdRev00to01 (x : Encoder) : Statement (.qdRev00to01 x) := rfl

theorem qdFwd00to10 (x : Encoder) : Statement (.qdFwd00to10 x) := rfl

theorem qdInvalid00to11 (x : Encoder) : Statement (.qdInvalid00to11 x) := rfl

theorem qdFwd01to00 (x : Encoder) : Statement (.qdFwd01to00 x) := rfl

theorem qdNull01to01 (x : Encoder) : Statement (.qdNull01to01 x) := rfl

theorem qdInvalid01to10 (x : Encoder) : Statement (.qdInvalid01to10 x) := rfl

theorem qdRev01to11 (x : Encoder) : Statement (.qdRev01to11 x) := rfl

theorem qdRev10to00 (x : Encoder) : Statement (.qdRev10to00 x) := rfl

theorem qdInvalid10to01 (x : Encoder) : Statement (.qdInvalid10to01 x) := rfl

theorem qdNull10to10 (x : Encoder) : Statement (.qdNull10to10 x) := rfl

theorem qdFwd10to11 (x : Encoder) : Statement (.qdFwd10to11 x) := rfl

theorem qdInvalid11to00 (x : Encoder) : Statement (.qdInvalid11to00 x) := rfl

theorem qdFwd11to01 (x : Encoder) : Statement (.qdFwd11to01 x) := rfl

theorem qdRev11to10 (x : Encoder) : Statement (.qdRev11to10 x) := rfl

theorem qdNull11to11 (x : Encoder) : Statement (.qdNull11to11 x) := rfl

theorem tick (x : Encoder) : Statement (.tick x) := rfl

theorem getPosition (x : Encoder) : Statement (.getPosition x) := rfl

theorem normalize : Statement (.normalize) := rfl

theorem snapshot : Statement (.snapshot) := rfl

theorem maybeSend : Statement (.maybeSend) := rfl

theorem cmdPoll : Statement (.cmdPoll) := rfl

theorem cmdWait : Statement (.cmdWait) := rfl

theorem cmdDiscard (x : Byte) : Statement (.cmdDiscard x) := rfl

theorem cmdDecode : Statement (.cmdDecode) := rfl

theorem loopStep : Statement (.loopStep) := rfl

theorem txf (x y z w : Byte) : Statement (.txf x y z w) := rfl

theorem rxf (x y : Byte) : Statement (.rxf x y) := rfl

end Sys2Proof.Laws.EncodeFormat
end

