-- ==== Sys2Proof/Tests/Slice0.lean ====
section
/-! SUPPORT. Tests on fixed values, taken from 95_test_vectors (its vector's id stands in the comment) or from the
rule named, and for each statement with hypotheses a witness that meets them. -/

namespace Sys2Proof.Tests.Slice0

open Sys2Proof.Machine Sys2Proof.Safety

/-! Helpers: the field of the next state, and small states. -/

/-- A value of the next state, or none where the machine stops. -/
def after {α : Type} (o : Host.Outcome State Fault Refusal) (f : State → α) : Option α :=
  match o with
  | .next t => some (f t)
  | .fault _ => none
  | .refused _ => none

/-- Whether `o` is the fault of an empty buffer. -/
def underflows (o : Host.Outcome State Fault Refusal) : Bool :=
  match o with
  | .fault .rxUnderflow => true
  | _ => false

/-- The cart decoder with latch phase `old` and count `n`, an interrupt pending and the pins at `new`. -/
def cartAt (old new : PinWord) (n : Count) : State :=
  ((State.reset.setEnc .cart { steps := n, latched := 0, phase := old }).setPins .cart new).setIrq .cart true

/-- The reset state with parameter `LATCH_DIV` = 4, after `RESET p p`. -/
def divFour (p : PinWord) : State :=
  powerOn p p { State.reset with cfg := { Config.defaultParams with latchDiv := .four } }

/-- The reset state with parameter `LAST_SENT_INIT` = `ZERO`, after `RESET 00 00`. -/
def initZero : State :=
  powerOn 0b00#2 0b00#2 { State.reset with cfg := { Config.defaultParams with lastSentInit := .zero } }

/-- The reset state with these samples and this gate. -/
def samples (o : Option Snapshot) (c a : Count) : State :=
  ((State.reset.setLastSent o).setLoopCart c).setLoopAngleRaw a

/-- The reset state with these bytes waiting. -/
def waiting (l : List Byte) : State := State.reset.setRx l

/-! Syntax and encoding. -/

/-- R88: CMD_DISCARD never takes the byte 0x55; the check refuses this ill-formed term. -/
theorem test_wellFormed_refuses_sync_discard : (Instr.cmdDiscard 0x55#8).wellFormed = false := by decide

theorem test_wellFormed_accepts_discard : (Instr.cmdDiscard 0xAA#8).wellFormed = true := by decide

/-- The sixteen transition words, written out as (old, new) bits from R48 and R50. -/
theorem test_decode_transition_words :
    ∀ r ∈ [(0b0000#4, Instr.qdNull00to00 .cart), (0b0001#4, .qdRev00to01 .cart), (0b0010#4, .qdFwd00to10 .cart),
        (0b0011#4, .qdInvalid00to11 .cart), (0b0100#4, .qdFwd01to00 .cart), (0b0101#4, .qdNull01to01 .cart),
        (0b0110#4, .qdInvalid01to10 .cart), (0b0111#4, .qdRev01to11 .cart), (0b1000#4, .qdRev10to00 .cart),
        (0b1001#4, .qdInvalid10to01 .cart), (0b1010#4, .qdNull10to10 .cart), (0b1011#4, .qdFwd10to11 .cart),
        (0b1100#4, .qdInvalid11to00 .cart), (0b1101#4, .qdFwd11to01 .cart), (0b1110#4, .qdRev11to10 .cart),
        (0b1111#4, .qdNull11to11 .cart)],
      (decode (.trans .cart r.1)).toOption = some r.2 := by decide

/-- R86: the head byte 0x55 is CMD_DECODE, any other CMD_DISCARD. -/
theorem test_decode_head_bytes :
    (decode (.head 0b01010101#8)).toOption = some .cmdDecode ∧
    (decode (.head 0b10101010#8)).toOption = some (.cmdDiscard 0xAA#8) := by decide

/-- R52, R56: frames, first byte on the wire first (S1, S3). -/
theorem test_decode_frames :
    (decode (.inbound [0x55#8, 0x2C#8, 0x01#8])).toOption = some (.rxf 0x2C#8 0x01#8) ∧
    (decode (.outbound [0xAA#8, 0x0A#8, 0x00#8, 0x05#8, 0x00#8])).toOption =
      some (.txf 0x0A#8 0x00#8 0x05#8 0x00#8) := by decide

/-- R52, R56, R58: a wrong sync byte and a wrong length are rejected. -/
theorem test_decode_rejects_bad_frames :
    (decode (.inbound [0xAA#8, 0x2C#8, 0x01#8])).toOption = none ∧
    (decode (.inbound [0x55#8, 0x2C#8])).toOption = none ∧
    (decode (.outbound [0x55#8, 0#8, 0#8, 0#8, 0#8])).toOption = none ∧
    (decode (.outbound [0xAA#8, 0#8, 0#8, 0#8])).toOption = none := by decide

/-- R60, R95, R104: the operations that have no word are selected by their trigger. -/
theorem test_triggers_select_operations :
    interruptOperation .angle = .tick .angle ∧ mainOperation = .loopStep ∧
    operationsAt .l0 = [.getPosition .cart] ∧ operationsAt .l1 = [.getPosition .angle] ∧
    operationsAt .l2 = [.normalize, .snapshot, .maybeSend] ∧ operationsAt .l3 = [.cmdPoll] ∧
    decodePoll [0x55#8, 0x2C#8] = .cmdWait := by decide

/-- The words of the opcode table with fixed bits, in the table's numbering. -/
theorem test_table_words :
    ((List.range 16).all fun w => decodeTableWord 8 w == some (decodeTrans .cart (BitVec.ofNat 4 w))) = true ∧
    decodeTableWord 16 0x807 = some (.qdRev01to11 .cart) ∧ decodeTableWord 16 0x40E = some (.qdRev11to10 .cart) ∧
    decodeTableWord 8 0x55 = some .cmdDecode ∧ decodeTableWord 24 0x552C01 = some (.rxf 0x2C#8 0x01#8) ∧
    decodeTableWord 40 0xAA0A000500 = some (.txf 0x0A#8 0x00#8 0x05#8 0x00#8) := by decide

theorem test_table_words_refused :
    decodeTableWord 16 0x1007 = none ∧ decodeTableWord 24 0x112C01 = none ∧ decodeTableWord 32 0 = none := by decide

/-- The next step runs the word that is placed: words 2 (Q2, from 0) and 7. -/
theorem test_fetch_transition_word :
    after (step (State.reset.withFetchWord 8 2)) (fun t => (t.enc.cart.steps, t.enc.cart.phase)) =
      some (1#32, 0b10#2) ∧
    after (step (State.reset.withFetchWord 16 0x807)) (fun t => (t.enc.cart.steps, t.enc.cart.phase)) =
      some (0xFFFFFFFF#32, 0b11#2) := by decide

/-- S1 through the fetch; CMD_DECODE with zero payload; the frame of S3. -/
theorem test_fetch_frames :
    after (step (State.reset.withFetchWord 24 0x552C01)) (fun t => (t.motor, t.led, t.rx)) =
      some ([300], true, []) ∧
    after (step (State.reset.withFetchWord 8 0x55)) (fun t => (t.motor, t.led)) = some ([0], false) ∧
    after (step (State.reset.withFetchWord 40 0xAA0A000500)) (·.tx) =
      some [0xAA#8, 0x0A#8, 0x00#8, 0x05#8, 0x00#8] := by decide

/-! The Quadrature Decoder. -/

/-- Q0, Q5, Q10, Q15. -/
theorem test_null_words :
    ∀ r ∈ [(Instr.qdNull00to00 .cart, 0b00#2, 0b00#2), (.qdNull01to01 .cart, 0b01#2, 0b01#2),
        (.qdNull10to10 .cart, 0b10#2, 0b10#2), (.qdNull11to11 .cart, 0b11#2, 0b11#2)],
      after (exec r.1 (cartAt r.2.1 r.2.2 100#32)) (fun t => (t.enc.cart.steps, t.enc.cart.phase)) =
        some (100#32, r.2.2) := by decide

/-- Q2, Q4, Q11, Q13. -/
theorem test_forward_words :
    ∀ r ∈ [(Instr.qdFwd00to10 .cart, 0b00#2, 0b10#2), (.qdFwd01to00 .cart, 0b01#2, 0b00#2),
        (.qdFwd10to11 .cart, 0b10#2, 0b11#2), (.qdFwd11to01 .cart, 0b11#2, 0b01#2)],
      after (exec r.1 (cartAt r.2.1 r.2.2 100#32)) (fun t => (t.enc.cart.steps, t.enc.cart.phase)) =
        some (101#32, r.2.2) := by decide

/-- Q1, Q7, Q8, Q14. -/
theorem test_reverse_words :
    ∀ r ∈ [(Instr.qdRev00to01 .cart, 0b00#2, 0b01#2), (.qdRev01to11 .cart, 0b01#2, 0b11#2),
        (.qdRev10to00 .cart, 0b10#2, 0b00#2), (.qdRev11to10 .cart, 0b11#2, 0b10#2)],
      after (exec r.1 (cartAt r.2.1 r.2.2 100#32)) (fun t => (t.enc.cart.steps, t.enc.cart.phase)) =
        some (99#32, r.2.2) := by decide

/-- Q3, Q6, Q9, Q12. -/
theorem test_invalid_words :
    ∀ r ∈ [(Instr.qdInvalid00to11 .cart, 0b00#2, 0b11#2), (.qdInvalid01to10 .cart, 0b01#2, 0b10#2),
        (.qdInvalid10to01 .cart, 0b10#2, 0b01#2), (.qdInvalid11to00 .cart, 0b11#2, 0b00#2)],
      after (exec r.1 (cartAt r.2.1 r.2.2 100#32)) (fun t => (t.enc.cart.steps, t.enc.cart.phase)) =
        some (100#32, r.2.2) := by decide

/-- Q2, Q7, Q9, with the word read from the state; every row clears `irq[0]`. -/
theorem test_tick_reads_its_word :
    after (exec (.tick .cart) (cartAt 0b00#2 0b10#2 100#32)) (fun t => (t.enc.cart, t.irq.cart)) =
      some ({ steps := 101, latched := 0, phase := 0b10#2 }, false) ∧
    after (exec (.tick .cart) (cartAt 0b01#2 0b11#2 100#32)) (fun t => (t.enc.cart, t.irq.cart)) =
      some ({ steps := 99, latched := 0, phase := 0b11#2 }, false) := by decide

/-- Q16 and Q17: the counter wraps both ways. -/
theorem test_tick_wraps :
    after (exec (.tick .cart) (cartAt 0b00#2 0b10#2 0x7FFFFFFF#32)) (fun t => (position t .cart).toInt) =
      some (-2147483648) ∧
    after (exec (.tick .cart) (cartAt 0b00#2 0b01#2 0x80000000#32)) (fun t => (position t .cart).toInt) =
      some 2147483647 := by decide

/-- L3, L6: `LATCH_DIV` = 4 counts one a cycle, and floors. -/
theorem test_div_four :
    after (runScript [.fwd .cart 4] (divFour 0b11#2)) (fun t => (t.enc.cart.steps, position t .cart)) =
      some (4#32, 1#32) ∧
    after (runScript [.rev .cart 4] (divFour 0b11#2)) (fun t => (t.enc.cart.steps, position t .cart)) =
      some (0xFFFFFFFC#32, 0xFFFFFFFF#32) := by decide

/-- G1 and G2. -/
theorem test_getPosition :
    after (exec (.getPosition .angle) State.reset) (·.ret) = some (.position 0#32) ∧
    after (exec (.getPosition .angle) (State.reset.setEnc .angle { steps := -5#32, latched := 0, phase := 0 }))
      (·.ret) = some (.position (-5#32)) := by decide

/-- G4: with `LATCH_DIV` = 4 the position, not the steps. -/
theorem test_getPosition_div_four :
    after (exec (.getPosition .cart) ((divFour 0b11#2).setEnc .cart { steps := 3, latched := 1, phase := 0b10#2 }))
      (·.ret) = some (.position 1#32) := by decide

/-- Q27, Q28: coalesced changes, in the notation of R61. -/
theorem test_coalesced_script :
    after (runScript [.pins .cart 0b10#2, .pins .cart 0b11#2, .pins .cart 0b01#2, .tick .cart] State.reset)
      (·.enc.cart.steps) = some 0xFFFFFFFF#32 ∧
    after (runScript [.pins .cart 0b10#2, .pins .cart 0b00#2, .tick .cart] State.reset) (·.enc.cart.steps) =
      some 0#32 := by decide

/-- Q29: recovery after an INVALID word. -/
theorem test_jump_recovers :
    after (runScript [.jump .cart, .move .cart 0b01#2] State.reset) (·.enc.cart.steps) = some 1#32 := by decide

/-! The Angle Normalizer. -/

/-- The table of 95_test_vectors. -/
theorem test_normalize_table :
    ∀ r ∈ [((0 : Int), 0), (1, 1), (1199, 1199), (1200, 0), (1201, 1), (1205, 5), (2399, 1199), (2400, 0),
        (123456, 1056), (-1, 1199), (-5, 1195), (-1200, 0), (-1201, 1199), (2147483647, 847), (-2147483648, 352),
        (65535, 735), (-65536, 464)],
      normalizeAngle r.1 = r.2 := by decide

/-- -1 as a raw angle reads 1199. -/
theorem test_normalize_exec :
    after (exec .normalize (samples none 0#32 0xFFFFFFFF#32)) (·.ret) = some (.angle 1199) := by decide

/-! The Telemetry Encoder. -/

/-- R78: the cart at full width, the angle normalized (T8's cart, T9's angle). -/
theorem test_snapshot :
    after (exec .snapshot (samples none 65536#32 1800#32)) (·.ret) =
      some (.snapshot { cart := 65536#32, angle := 600 }) := by decide

/-- T1, T4, T7, T8. -/
theorem test_maybeSend_sends :
    ∀ r ∈ [((none : Option Snapshot), 0#32, 0#32, [0xAA#8, 0#8, 0#8, 0#8, 0#8]),
        (some { cart := 0, angle := 0 }, 10#32, 1205#32, [0xAA#8, 0x0A#8, 0#8, 0x05#8, 0#8]),
        (some { cart := 11, angle := 5 }, 11#32, 0xFFFFFFFF#32, [0xAA#8, 0x0B#8, 0#8, 0xAF#8, 0x04#8]),
        (some { cart := 0, angle := 0 }, 65536#32, 0#32, [0xAA#8, 0#8, 0#8, 0#8, 0#8])],
      after (exec .maybeSend (samples r.1 r.2.1 r.2.2.1)) (·.tx) = some r.2.2.2 := by decide

/-- T3, T9, T10: nothing is sent. -/
theorem test_maybeSend_is_silent :
    after (exec .maybeSend (samples (some { cart := 0, angle := 0 }) 0#32 1200#32)) (·.tx) = some [] ∧
    after (exec .maybeSend (samples (some { cart := -300#32, angle := 600 }) (-300#32) 1800#32)) (·.tx) = some [] ∧
    after (exec .maybeSend initZero) (·.tx) = some [] := by decide

/-- R52, and Table F's row for -300 and 600. -/
theorem test_txf :
    after (exec (.txf 0xD4#8 0xFE#8 0x58#8 0x02#8) State.reset) (·.tx) =
      some (txFrame { cart := -300#32, angle := 600 }) ∧
    txFrame { cart := -300#32, angle := 600 } = [0xAA#8, 0xD4#8, 0xFE#8, 0x58#8, 0x02#8] := by decide

/-! The Command Decoder. -/

/-- K4, K7, K8, K11. -/
theorem test_poll_decodes :
    ∀ r ∈ [([0x55#8, 0x2C#8, 0x01#8], (300 : Int), ([] : List Byte)), ([0x55#8, 0x00#8, 0x80#8], -32768, []),
        ([0x55#8, 0xFF#8, 0x7F#8], 32767, []), ([0x55#8, 0x38#8, 0xFF#8, 0x55#8], -200, [0x55#8])],
      after (exec .cmdPoll (waiting r.1)) (fun t => (t.motor, t.led, t.rx)) = some ([r.2.1], true, r.2.2) := by
  decide

/-- K2, K3, K12. -/
theorem test_poll_waits_or_discards :
    after (exec .cmdPoll (waiting [0x55#8, 0x2C#8])) (·.rx) = some [0x55#8, 0x2C#8] ∧
    after (exec .cmdPoll (waiting [0x00#8, 0x55#8])) (·.rx) = some [0x00#8, 0x55#8] ∧
    after (exec .cmdPoll (waiting [0xAA#8, 0x55#8, 0x2C#8, 0x01#8])) (fun t => (t.motor, t.rx)) =
      some ([], [0x55#8, 0x2C#8, 0x01#8]) := by decide

/-- K1. -/
theorem test_wait : after (exec .cmdWait (waiting [])) (fun t => (t.rx, t.motor)) = some ([], []) := by decide

/-- K13: one byte only. -/
theorem test_discard :
    after (exec (.cmdDiscard 0x00#8) (waiting [0x00#8, 0x00#8, 0x00#8, 0x55#8, 0x2C#8, 0x01#8])) (·.rx) =
      some [0x00#8, 0x00#8, 0x55#8, 0x2C#8, 0x01#8] := by decide

/-- K15: a zero speed puts the indicator out; K16: a lost byte. -/
theorem test_decode_command :
    after (exec .cmdDecode ((waiting [0x55#8, 0x00#8, 0x00#8]).setLed true)) (fun t => (t.motor, t.led)) =
      some ([0], false) ∧
    after (exec .cmdDecode (waiting [0x55#8, 0x2C#8, 0x55#8, 0xD4#8, 0xFE#8])) (fun t => (t.motor, t.rx)) =
      some ([21804], [0xD4#8, 0xFE#8]) := by decide

/-- K5, K9: the frame as an instruction. -/
theorem test_rxf :
    after (exec (.rxf 0xFF#8 0xFF#8) (waiting [0x55#8, 0xFF#8, 0xFF#8])) (·.motor) = some [-1] ∧
    after (exec (.rxf 0x55#8 0x55#8) (waiting [0x55#8, 0x55#8, 0x55#8])) (·.motor) = some [21845] := by decide

/-- R12: RxRead is not defined on an empty buffer. -/
theorem test_empty_buffer_stops :
    underflows (exec (.cmdDiscard 0x00#8) State.reset) = true ∧ underflows (exec .cmdDecode State.reset) = true ∧
    underflows (exec (.rxf 0#8 0#8) (waiting [0x55#8])) = true := by decide

/-! The Control Loop. -/

/-- C1 and C2. -/
theorem test_iteration :
    after (runScript [.iter, .iter] State.reset) (fun t => (t.tx, t.loop.phase)) =
      some ([0xAA#8, 0x00#8, 0x00#8, 0x00#8, 0x00#8], .l0) := by decide

/-- C3: the skew between the two samples. -/
theorem test_sampling_skew :
    after (runScript [.step, .fwd .cart 1, .fwd .angle 1, .step, .step, .step] State.reset) (·.tx) =
      some [0xAA#8, 0x00#8, 0x00#8, 0x01#8, 0x00#8] := by decide

/-- The other agents: a full buffer loses the byte (R28). -/
theorem test_full_buffer_loses_byte :
    after (runTurn (.deliver 0xFE#8) { waiting [0x55#8] with cfg := { Config.defaultParams with rxCapacity := 1 } })
      (·.rx) = some [0x55#8] := by decide

/-- S2, and the level history of R15: garbage, 300, then 0. -/
theorem test_garbage_then_commands :
    after (runScript [.rx [0x00#8, 0x55#8, 0x2C#8, 0x01#8], .iter, .iter, .cmd 0, .iter] State.reset)
      (fun t => (t.motor, t.ledHistory)) = some ([300, 0], [false, true, false]) := by decide

/-! Witnesses: concrete states and operands that meet the hypotheses of each statement that has some, one for each
clause. The name says whose hypotheses they are. -/

theorem witness_DecodeOfEncode :
    (Instr.cmdDiscard 0xAA#8).wellFormed = true ∧ encode (.cmdDiscard 0xAA#8) = some (.head 0xAA#8) ∧
    (Instr.rxf 0xFF#8 0xFF#8).wellFormed = true ∧
    encode (.rxf 0xFF#8 0xFF#8) = some (.inbound [0x55#8, 0xFF#8, 0xFF#8]) := by decide

theorem witness_EncodeOfDecode : decode (.outbound [0xAA#8, 0xFF#8, 0xFF#8, 0xAF#8, 0x04#8]) =
    .ok (.txf 0xFF#8 0xFF#8 0xAF#8 0x04#8) := rfl

theorem witness_ExchangedWiresReverseDirection :
    transClass (tickWord (cartAt 0b00#2 0b10#2 0x7FFFFFFF#32) .cart) = .fwd := by decide

/-- At `LATCH_PHASE` with the position in step, and with `LATCH_DIV` = 1. -/
theorem witness_SpuriousTickChangesNothing :
    ReloadInv (divFour 0b11#2) .cart ∧ LatchInv (divFour 0b11#2) .cart ∧
    ((divFour 0b11#2).enc.get .cart).phase = (divFour 0b11#2).pins.get .cart ∧
    (divFour 0b11#2).irq.get .cart = false ∧ (divFour 0b11#2).cfg.latchPhase = 0b11#2 ∧
    ReloadInv State.reset .angle ∧ LatchInv State.reset .angle ∧ State.reset.irq.get .angle = false :=
  ⟨fun _ _ => rfl, .inr rfl, rfl, rfl, rfl, fun h => absurd h (by decide), .inr rfl, rfl⟩

theorem witness_StepsMoveByAtMostOne :
    (∃ t, runTurn (.tick .cart) (cartAt 0b00#2 0b10#2 0x7FFFFFFF#32) = .next t) ∧
    (∃ t, runTurn .main State.reset = .next t) ∧
    (∀ p q, Turn.main ≠ .powerOn p q) ∧ (∀ p q, Turn.tick .cart ≠ .powerOn p q) :=
  ⟨⟨_, rfl⟩, ⟨_, rfl⟩, fun _ _ => nofun, fun _ _ => nofun⟩

theorem witness_CountersWrap :
    ((cartAt 0b00#2 0b10#2 0x7FFFFFFF#32).enc.get .cart).steps.toInt = 2 ^ 31 - 1 ∧
    transClass (tickWord (cartAt 0b00#2 0b10#2 0x7FFFFFFF#32) .cart) = .fwd ∧
    ((cartAt 0b00#2 0b01#2 0x80000000#32).enc.get .cart).steps.toInt = -2 ^ 31 ∧
    transClass (tickWord (cartAt 0b00#2 0b01#2 0x80000000#32) .cart) = .rev ∧
    (cartAt 0b00#2 0b10#2 0x7FFFFFFF#32).cfg.latchDiv = .one := by decide

theorem witness_FullCycleCountsOneWithDivFour :
    (divFour 0b11#2).cfg.latchDiv = .four ∧
    ((divFour 0b11#2).enc.get .cart).phase = (divFour 0b11#2).cfg.latchPhase ∧
    (divFour 0b11#2).pins.get .cart = (divFour 0b11#2).cfg.latchPhase ∧ ReloadInv (divFour 0b11#2) .cart ∧
    ((divFour 0b11#2).enc.get .cart).steps.toInt + 4 < 2 ^ 31 :=
  ⟨rfl, rfl, rfl, fun _ _ => rfl, by decide⟩

/-- Both directions; `LATCH_DIV` = 1, and 4 at `LATCH_PHASE`. -/
theorem witness_BounceIsAbsorbed :
    (State.reset.enc.get .cart).phase = State.reset.pins.get .cart ∧ State.reset.cfg.latchDiv = .one ∧
    (0b10#2 = nextPins (State.reset.pins.get .cart) ∧ (1 : Int) = 1) ∧
    (0b01#2 = prevPins (State.reset.pins.get .cart) ∧ (-1 : Int) = -1) ∧
    ((divFour 0b11#2).enc.get .cart).phase = (divFour 0b11#2).pins.get .cart ∧
    (divFour 0b11#2).cfg.latchDiv = .four ∧ (divFour 0b11#2).cfg.latchPhase = (divFour 0b11#2).pins.get .cart ∧
    0b01#2 = nextPins ((divFour 0b11#2).pins.get .cart) ∧ ReloadInv (divFour 0b11#2) .cart :=
  ⟨rfl, rfl, ⟨rfl, rfl⟩, ⟨rfl, rfl⟩, rfl, rfl, rfl, rfl, fun _ _ => rfl⟩

theorem witness_QuadratureCountIsExact :
    (∀ e, (State.reset.enc.get e).phase = State.reset.pins.get e) ∧ State.reset.cfg.latchDiv = .one :=
  ⟨fun e => by cases e <;> rfl, rfl⟩

/-- Both directions from the pin word 00. -/
theorem witness_CoalescedChangesAreMisread :
    (State.reset.enc.get .cart).phase = State.reset.pins.get .cart ∧
    (0b10#2 = nextPins (State.reset.pins.get .cart) ∧ 0b11#2 = nextPins 0b10#2 ∧ 0b01#2 = nextPins 0b11#2 ∧
      0b00#2 = nextPins 0b01#2) ∧
    (0b01#2 = prevPins (State.reset.pins.get .cart) ∧ 0b11#2 = prevPins 0b01#2 ∧ 0b10#2 = prevPins 0b11#2 ∧
      0b00#2 = prevPins 0b10#2) := by decide

/-- Both divisors; between the two reads MAIN and the other encoder step. -/
theorem witness_GetPositionReturnsCount :
    State.reset.cfg.latchDiv = .one ∧ (divFour 0b11#2).cfg.latchDiv = .four ∧
    (∀ x ∈ [Turn.main, .tick .angle], x ≠ .tick .cart ∧ ∀ p q, x ≠ .powerOn p q) ∧
    ∃ u, runTurns [.main, .tick .angle] State.reset = .next u :=
  ⟨rfl, rfl, by simp, _, rfl⟩

/-- Nothing to send; the first frame; a frame of the angle's extremes. -/
theorem witness_MaybeSendWritesOneFrame :
    (samples (some { cart := 10, angle := 5 }) 10#32 1205#32).lastSent = some { cart := 10, angle := 5 } ∧
    (samples none 10#32 1205#32).lastSent ≠ some { cart := 10, angle := 5 } ∧
    (10#32 : Count) = (samples none 10#32 1205#32).loop.cart ∧
    ((5 : Nat) : Int) = (samples none 10#32 1205#32).loop.angleRaw.toInt.fmod 1200 ∧
    ((352 : Nat) : Int) = (samples none 0x80000000#32 0x80000000#32).loop.angleRaw.toInt.fmod 1200 ∧
    (samples none 0x80000000#32 0x80000000#32).lastSent ≠ some { cart := 0x80000000#32, angle := 352 } := by decide

theorem witness_ChangeGateSendsOnDifference :
    (∃ t, exec .maybeSend (samples none 10#32 1205#32) = .next t) ∧ (samples none 10#32 1205#32).lastSent = none ∧
    (10#32 = (samples none 10#32 1205#32).loop.cart ∧
      normalizeAngle (5#32).toInt = normalizeAngle (samples none 10#32 1205#32).loop.angleRaw.toInt) ∧
    11#32 ≠ (samples none 10#32 1205#32).loop.cart ∧
    normalizeAngle (6#32).toInt ≠ normalizeAngle (samples none 10#32 1205#32).loop.angleRaw.toInt :=
  ⟨⟨_, rfl⟩, rfl, by decide, by decide, by decide⟩

/-- The ends of both ranges of the cart and of the angle. -/
theorem witness_HostReadsFrameBack :
    (Snapshot.mk (-32768#32) 1199).angle < 1200 ∧ -32768 ≤ (-32768#32 : Count).toInt ∧
    (-32768#32 : Count).toInt ≤ 32767 ∧ (32767#32 : Count).toInt = 32767 ∧ (0#32 : Count).toInt = 0 ∧
    0 ≤ (65535#32 : Count).toInt ∧ (65535#32 : Count).toInt ≤ 65535 := by decide

theorem witness_FramesRunAsInstructions :
    (waiting [0x55#8, 0x00#8, 0x80#8]).rx = 0x55#8 :: 0x00#8 :: 0x80#8 :: [] := by decide

/-- States whose other half differs. -/
theorem witness_HalvesAreIndependent :
    (samples none 1#32 2#32).setLoopPhase .l2 ≠ (((samples none 1#32 2#32).setLoopPhase .l2).setRx [0x55#8]) ∧
    ((samples none 1#32 2#32).setLoopPhase .l2).loop =
      (((samples none 1#32 2#32).setLoopPhase .l2).setRx [0x55#8]).loop ∧
    SameTelemetry ((samples none 1#32 2#32).setLoopPhase .l2)
      (((samples none 1#32 2#32).setLoopPhase .l2).setRx [0x55#8]) ∧
    ((waiting [0x55#8, 1#8, 0#8]).setLoopPhase .l3).loop.phase = .l3 ∧
    (((waiting [0x55#8, 1#8, 0#8]).setLoopPhase .l3).setTx [0xAA#8]).loop.phase = .l3 ∧
    SameReceive ((waiting [0x55#8, 1#8, 0#8]).setLoopPhase .l3)
      (((waiting [0x55#8, 1#8, 0#8]).setLoopPhase .l3).setTx [0xAA#8]) :=
  ⟨by decide, rfl, ⟨rfl, rfl⟩, rfl, rfl, ⟨rfl, rfl, rfl, rfl⟩⟩

theorem witness_PollWaitsBelowThreeBytes : (waiting [0x55#8, 0x2C#8]).rx.length < 3 := by decide

theorem witness_PollDiscardsOneByte :
    (waiting [0xAA#8, 0x55#8, 0x2C#8]).rx = 0xAA#8 :: 0x55#8 :: 0x2C#8 :: [] ∧ 0xAA#8 ≠ 0x55#8 := by decide

/-- The largest and the most negative speed, and zero. -/
theorem witness_PollDecodesOneFrame :
    (waiting [0x55#8, 0xFF#8, 0x7F#8]).rx = 0x55#8 :: 0xFF#8 :: 0x7F#8 :: [] ∧
    32767 = (0xFF#8).toNat + 256 * (0x7F#8).toNat ∧
    (waiting [0x55#8, 0x00#8, 0x80#8]).rx = 0x55#8 :: 0x00#8 :: 0x80#8 :: [] ∧
    32768 = (0x00#8).toNat + 256 * (0x80#8).toNat ∧
    (waiting [0x55#8, 0x00#8, 0x00#8]).rx = 0x55#8 :: 0x00#8 :: 0x00#8 :: [] ∧
    0 = (0x00#8).toNat + 256 * (0x00#8).toNat := by decide

theorem witness_PollIsItsSelectedOutcome :
    (waiting [0x55#8, 0x2C#8]).rx.length < 3 ∧
    ((waiting [0xAA#8, 0x55#8, 0x2C#8]).rx = 0xAA#8 :: [0x55#8, 0x2C#8] ∧
      3 ≤ (waiting [0xAA#8, 0x55#8, 0x2C#8]).rx.length ∧ 0xAA#8 ≠ 0x55#8) ∧
    ((waiting [0x55#8, 0x2C#8, 0x01#8]).rx = 0x55#8 :: [0x2C#8, 0x01#8] ∧
      3 ≤ (waiting [0x55#8, 0x2C#8, 0x01#8]).rx.length) := by decide

theorem witness_EverySpeedIsForwarded :
    (0xFF#8).toNat + 256 * (0x7F#8).toNat < 32768 ∧ ¬ (0x00#8).toNat + 256 * (0x80#8).toNat < 32768 ∧
    (waiting [0x55#8, 0x00#8, 0x80#8]).rx = 0x55#8 :: 0x00#8 :: 0x80#8 :: [] ∧
    commandBytes (-32768) = [0x55#8, 0x00#8, 0x80#8] ∧ commandBytes 32767 = [0x55#8, 0xFF#8, 0x7F#8] := by decide

theorem witness_ReadOfEmptyBufferFaults :
    (waiting [0x55#8, 0x2C#8]).rx.length < 3 ∧ (waiting [0x55#8, 0x2C#8]).rx ≠ [] ∧ State.reset.rx = [] := by decide

theorem witness_GarbageIsDrainedThenFrameDecoded :
    (∀ b ∈ [0x00#8, 0xAA#8], b ≠ 0x55#8) ∧
    (waiting [0x00#8, 0xAA#8, 0x55#8, 0x2C#8, 0x01#8]).rx = [0x00#8, 0xAA#8] ++ 0x55#8 :: 0x2C#8 :: 0x01#8 :: [] := by
  decide

theorem witness_PollRemovesAtMostThreeBytes :
    (waiting [0xAA#8, 0x55#8, 0x2C#8]).rx = 0xAA#8 :: [0x55#8, 0x2C#8] ∧ 0xAA#8 ≠ 0x55#8 := by decide

theorem witness_OnlyDecodeDrivesOutputs :
    (∃ t, exec .cmdDecode (waiting [0x55#8, 0x2C#8, 0x01#8]) = .next t) ∧
    (∃ t, exec (.cmdDiscard 0xAA#8) (waiting [0xAA#8]) = .next t) ∧
    (Instr.cmdDiscard 0xAA#8 ≠ .cmdDecode ∧ Instr.cmdDiscard 0xAA#8 ≠ .cmdPoll ∧
      Instr.cmdDiscard 0xAA#8 ≠ .loopStep ∧ ∀ lo hi, Instr.cmdDiscard 0xAA#8 ≠ .rxf lo hi) ∧
    (∃ t, runTurn .main ((waiting [0x55#8, 0x2C#8, 0x01#8]).setLoopPhase .l3) = .next t) ∧
    (∀ p q, Turn.main ≠ .powerOn p q) :=
  ⟨⟨_, rfl⟩, ⟨_, rfl⟩, ⟨nofun, nofun, nofun, fun _ _ => nofun⟩, ⟨_, rfl⟩, fun _ _ => nofun⟩

/-- All four phases. -/
theorem witness_LoopStepRunsItsPhase :
    ∀ p : LoopPhase, (State.reset.setLoopPhase p).loop.phase = p := by
  intro p
  cases p <;> rfl

theorem witness_IterationSendsAtMostOneFrame :
    State.reset.loop.phase = .l0 ∧ State.reset.lastSent ≠ some { cart := 0, angle := 0 } ∧
    (samples (some { cart := 0, angle := 0 }) 7#32 7#32).loop.phase = .l0 ∧
    (samples (some { cart := 0, angle := 0 }) 7#32 7#32).lastSent = some
      { cart := position (samples (some { cart := 0, angle := 0 }) 7#32 7#32) .cart
        angle := normalizeAngle
          (position (samples (some { cart := 0, angle := 0 }) 7#32 7#32) .angle).toInt } := by decide

/-- C3's interleaving, with bytes delivered too. -/
theorem witness_ReportCarriesItsOwnSamples :
    State.reset.loop.phase = .l0 ∧
    (∀ t ∈ moveTurns .cart 0b10#2 ++ moveTurns .angle 0b10#2, notMain t = true) ∧
    (∀ t ∈ [Turn.deliver 0x55#8], notMain t = true) ∧
    (∃ s1, runTurns (.main :: (moveTurns .cart 0b10#2 ++ moveTurns .angle 0b10#2)) State.reset = .next s1 ∧
      ∃ s2, runTurns (.main :: [.deliver 0x55#8]) s1 = .next s2) :=
  ⟨rfl, by decide, by decide, ⟨_, rfl, _, rfl⟩⟩

/-- The net count of a run of equal moves. -/
theorem netCount_replicate (e f : Encoder) (l : List Move) (n : Nat) :
    netCount e (List.replicate n (.forward f) ++ l) = (if f = e then (n : Int) else 0) + netCount e l := by
  induction n with
  | zero => simp
  | succ n ih =>
    rw [List.replicate_succ, List.cons_append, netCount, ih]
    by_cases h : f = e
    · simp only [moveEncoder, moveClass, classDelta, h, if_true]; omega
    · simp only [moveEncoder, h, if_false]; omega

/-- `a` forward moves of the cart, then `b` of the angle; S3 is 10 and 1205. -/
def forwardMoves (a b : Nat) : List (Option Move) :=
  List.replicate a (some (.forward .cart)) ++ List.replicate b (some (.forward .angle))

theorem forwardMoves_filterMap (a b : Nat) : (forwardMoves a b).filterMap id =
    List.replicate a (.forward .cart) ++ (List.replicate b (.forward .angle) ++ []) := by
  rw [forwardMoves, List.filterMap_append, List.filterMap_replicate_of_some (f := id) rfl,
    List.filterMap_replicate_of_some (f := id) rfl, List.append_nil]

theorem netCount_forwardMoves (a b : Nat) :
    netCount .cart ((forwardMoves a b).filterMap id) = a ∧ netCount .angle ((forwardMoves a b).filterMap id) = b := by
  constructor <;> rw [forwardMoves_filterMap, netCount_replicate, netCount_replicate] <;> simp [netCount]

/-- The phase after the one MAIN step at a phase (R95). -/
def nextPhase : LoopPhase → LoopPhase
  | .l0 => .l1
  | .l1 => .l2
  | .l2 => .l3
  | .l3 => .l0

/-- A MAIN step completes and moves the phase on. -/
theorem main_phase (s : State) : ∃ t, runTurn .main s = .next t ∧ t.loop.phase = nextPhase s.loop.phase := by
  change ∃ t, execLoopStep s = .next t ∧ _
  cases h : s.loop.phase with
  | l0 => exact ⟨_, execLoopStep_l0 h, rfl⟩
  | l1 => exact ⟨_, execLoopStep_l1 h, rfl⟩
  | l2 => exact ⟨_, execLoopStep_l2 h, rfl⟩
  | l3 =>
    obtain ⟨t, ht⟩ := pollCommand_next s
    exact ⟨_, by rw [execLoopStep_l3 h, ht]; rfl, rfl⟩

/-- A TICK turn completes and leaves the loop registers. -/
theorem tick_phase (e : Encoder) (s : State) :
    ∃ t, runTurn (.tick e) s = .next t ∧ t.loop.phase = s.loop.phase := by
  change ∃ t, exec (decodeTrans e (tickWord s e)) s = .next t ∧ _
  unfold decodeTrans
  split <;> exact ⟨_, rfl, rfl⟩

/-- How far the loop is after the MAIN steps of a scenario. -/
def phaseAfter : List (Option Move) → LoopPhase → LoopPhase
  | [], p => p
  | none :: ms, p => phaseAfter ms (nextPhase p)
  | some _ :: ms, p => phaseAfter ms p

theorem scenario_phase (ms : List (Option Move)) (s : State) (p : PerEncoder PinWord) :
    ∃ u, runTurns (scenarioTurns ms p) s = .next u ∧ u.loop.phase = phaseAfter ms s.loop.phase := by
  induction ms generalizing s p with
  | nil => exact ⟨s, rfl, rfl⟩
  | cons m ms ih =>
    cases m with
    | none =>
      obtain ⟨t, ht, hp⟩ := main_phase s
      obtain ⟨u, hu, hq⟩ := ih t p
      exact ⟨u, by rw [scenarioTurns, runTurns, ht]; exact hu, by rw [hq, hp]; rfl⟩
    | some m =>
      obtain ⟨t, ht, hp⟩ := tick_phase (moveEncoder m)
        (envSetPins (moveEncoder m) (moveTarget m (p.get (moveEncoder m))) s)
      obtain ⟨u, hu, hq⟩ := ih t (p.set (moveEncoder m) (moveTarget m (p.get (moveEncoder m))))
      refine ⟨u, ?_, ?_⟩
      · simp only [scenarioTurns, moveTurns, List.cons_append, List.nil_append, runTurns]
        rw [show runTurn (.setPins (moveEncoder m) (moveTarget m (p.get (moveEncoder m)))) s = .next _ from rfl]
        rw [andThen_next, ht]
        exact hu
      · rw [hq, hp]
        rcases envSetPins_cases (moveEncoder m) (moveTarget m (p.get (moveEncoder m))) s with ⟨_, h⟩ | ⟨_, h⟩ <;>
          rw [h] <;> rfl

theorem scenario_from_powerOn (ms : List (Option Move)) (s : State) (p0 p1 : PinWord) :
    ∃ u, runTurns (.powerOn p0 p1 :: scenarioTurns ms { cart := p0, angle := p1 }) s = .next u ∧
      u.loop.phase = phaseAfter ms .l0 :=
  scenario_phase ms (powerOn p0 p1 s) { cart := p0, angle := p1 }

theorem phaseAfter_replicate (n : Nat) (m : Move) (l : List (Option Move)) (p : LoopPhase) :
    phaseAfter (List.replicate n (some m) ++ l) p = phaseAfter l p := by
  induction n with
  | zero => rfl
  | succ n ih => exact ih

theorem phaseAfter_iteration (ms : List (Option Move)) :
    phaseAfter (List.replicate 4 none ++ ms) .l0 = phaseAfter ms .l0 := rfl

theorem phaseAfter_forwardMoves (a b : Nat) (p : LoopPhase) : phaseAfter (forwardMoves a b) p = p := by
  rw [forwardMoves, phaseAfter_replicate, ← List.append_nil (List.replicate b _), phaseAfter_replicate]; rfl

/-- S3 with no iteration before it ends (the first clause), and from L0 (the second). -/
theorem witness_EndToEndScenario :
    State.reset.cfg.latchDiv = .one ∧ State.reset.cfg.lastSentInit = .none ∧
    netCount .cart ((forwardMoves 10 1205).filterMap id) = 10 ∧
    netCount .angle ((forwardMoves 10 1205).filterMap id) = 1205 ∧
    (∀ m ∈ forwardMoves 10 1205, m ≠ none) ∧
    ∃ u, runTurns (.powerOn 0b00#2 0b00#2 :: scenarioTurns (forwardMoves 10 1205) { cart := 0b00#2, angle := 0b00#2 })
      State.reset = .next u ∧ u.loop.phase = .l0 := by
  refine ⟨rfl, rfl, (netCount_forwardMoves 10 1205).1, (netCount_forwardMoves 10 1205).2, ?_, ?_⟩
  · intro m hm
    rcases List.mem_append.1 hm with h | h <;> rw [List.eq_of_mem_replicate h] <;> exact nofun
  · obtain ⟨u, hu, hp⟩ := scenario_from_powerOn (forwardMoves 10 1205) State.reset 0b00#2 0b00#2
    exact ⟨u, hu, hp.trans (phaseAfter_forwardMoves 10 1205 .l0)⟩

/-- The second clause with one whole iteration of MAIN before the moves. -/
theorem witness_EndToEndScenario_after_iteration :
    netCount .cart ((List.replicate 4 none ++ forwardMoves 10 1205).filterMap id) = 10 ∧
    netCount .angle ((List.replicate 4 none ++ forwardMoves 10 1205).filterMap id) = 1205 ∧
    ∃ u, runTurns (.powerOn 0b11#2 0b00#2 :: scenarioTurns (List.replicate 4 none ++ forwardMoves 10 1205)
      { cart := 0b11#2, angle := 0b00#2 }) State.reset = .next u ∧ u.loop.phase = .l0 := by
  refine ⟨?_, ?_, ?_⟩
  · rw [List.filterMap_append, List.filterMap_replicate_of_none rfl]
    exact (netCount_forwardMoves 10 1205).1
  · rw [List.filterMap_append, List.filterMap_replicate_of_none rfl]
    exact (netCount_forwardMoves 10 1205).2
  · obtain ⟨u, hu, hp⟩ :=
      scenario_from_powerOn (List.replicate 4 none ++ forwardMoves 10 1205) State.reset 0b11#2 0b00#2
    exact ⟨u, hu, hp.trans ((phaseAfter_iteration _).trans (phaseAfter_forwardMoves 10 1205 .l0))⟩

theorem witness_StepRunsTheFetchedInstruction :
    ((cartAt 0b00#2 0b10#2 0#32).setScript [.tick .cart]).script = .tick .cart :: [] ∧
    (State.reset.setScript [.main]).script = .main :: [] ∧ State.reset.script = [] ∧
    fetchInstr .main State.reset = some .loopStep ∧
    fetchInstr (.tick .cart) (cartAt 0b00#2 0b10#2 0#32) = some (.qdFwd00to10 .cart) := by decide

theorem witness_ReceiveStepRunsTheDecodedBytes :
    (((waiting [0x55#8, 0x2C#8, 0x01#8]).setLoopPhase .l3).setScript [.main]).script = .main :: [] ∧
    (((waiting [0x55#8, 0x2C#8, 0x01#8]).setLoopPhase .l3).setScript [.main]).loop.phase = .l3 ∧
    (((waiting [0x55#8, 0x2C#8, 0x01#8]).setLoopPhase .l3).setScript [.main]).rx =
      0x55#8 :: 0x2C#8 :: 0x01#8 :: [] := by decide

theorem witness_ScriptIsAnInterleaving :
    (State.reset.setScript [.setPins .cart 0b10#2, .tick .cart, .main]).script =
      [.setPins .cart 0b10#2, .tick .cart] ++ [.main] := by decide

/-- A state that has sent a frame and taken a command, with a pending interrupt and MAIN next. -/
def busy : State :=
  { State.reset with
    pins := { cart := 0b10#2, angle := 0b00#2 }
    irq := { cart := true, angle := false }
    lastSent := some { cart := 10, angle := 5 }
    loop := { phase := .l3, cart := 10, angleRaw := 1205 }
    led := true
    ledHistory := [false, true]
    rx := [0x55#8, 0x00#8, 0x00#8]
    tx := [0xAA#8, 0x0A#8, 0x00#8, 0x05#8, 0x00#8]
    motor := [300]
    script := [.main] }

theorem witness_EveryStepKeepsTheInvariant : Inv busy ∧ ∃ t, step busy = .next t := by
  refine ⟨?_, ⟨_, rfl⟩⟩
  exact
    { telemetry := ⟨[{ cart := 10, angle := 5 }], by decide, by decide, by decide, by simp, by decide⟩
      command := ⟨by decide, by decide, by decide, by simp [busy]⟩
      latchCart := .inl rfl
      latchAngle := .inr rfl
      buffer := by unfold BufferInv; decide
      oneRegister := fun _ => ⟨rfl, rfl⟩
      reloadCart := fun h => absurd h (by decide)
      reloadAngle := fun h => absurd h (by decide) }

theorem witness_PowerOnEstablishesTheInvariant : 0 < State.reset.cfg.rxCapacity := by decide

theorem witness_PowerOnLeavesResetValues :
    State.reset.cfg.lastSentInit = .none ∧ initZero.cfg.lastSentInit = .zero := by decide

theorem witness_PowerOnForgetsEverything :
    SameSetup State.reset (samples (some { cart := 1, angle := 1 }) 7#32 7#32) := ⟨rfl, rfl, rfl⟩

theorem witness_ParametersAreFixed :
    (∃ t, step (State.reset.setScript [.main]) = .next t) ∧ ∃ t, exec .loopStep State.reset = .next t :=
  ⟨⟨_, rfl⟩, ⟨_, rfl⟩⟩

/-- A transition row, a TICK, and an instruction of MAIN. -/
theorem witness_ContextsWriteTheirOwnState :
    (∃ t, exec (.qdFwd00to10 .cart) State.reset = .next t) ∧
    encode (.qdFwd00to10 .cart) = some (.trans .cart 0b0010#4) ∧
    (∃ t, exec (.tick .angle) State.reset = .next t) ∧ Encoder.cart ≠ .angle ∧
    (∃ t, exec .loopStep State.reset = .next t) ∧
    (∀ e, Instr.loopStep ≠ .tick e ∧ ∀ w, encode .loopStep ≠ some (.trans e w)) :=
  ⟨⟨_, rfl⟩, rfl, ⟨_, rfl⟩, by decide, ⟨_, rfl⟩, fun _ => ⟨nofun, fun _ => nofun⟩⟩

/-- Room for one byte, and a buffer of capacity 1 that is full. -/
theorem witness_DeliveredByteIsQueuedOrLost :
    State.reset.rx.length < State.reset.cfg.rxCapacity ∧
    ({ waiting [0x55#8] with cfg := { Config.defaultParams with rxCapacity := 1 } } : State).cfg.rxCapacity ≤
      ({ waiting [0x55#8] with cfg := { Config.defaultParams with rxCapacity := 1 } } : State).rx.length := by decide

theorem witness_PinChangeSetsThePendingFlag :
    0b11#2 ≠ State.reset.pins.get .cart ∧ 0b00#2 = State.reset.pins.get .cart ∧ Encoder.angle ≠ .cart ∧
    ∃ t, runTurn (.tick .cart) (cartAt 0b00#2 0b10#2 0#32) = .next t ∧
      (cartAt 0b00#2 0b10#2 0#32).irq.get .cart = true ∧ t.irq.get .cart = false :=
  ⟨by decide, by decide, by decide, _, rfl, by decide, by decide⟩

theorem witness_LogsOnlyGrow :
    (∃ t, runTurn .main (State.reset.setLoopPhase .l2) = .next t) ∧ (∀ p q, Turn.main ≠ .powerOn p q) :=
  ⟨⟨_, rfl⟩, fun _ _ => nofun⟩

/-- MAIN and the two handlers in turn. -/
def fairTurn (n : Nat) : Turn :=
  if n % 3 = 0 then .main else if n % 3 = 1 then .tick .cart else .tick .angle

/-- The run of `fairTurn` from a state with an interrupt pending. -/
def fairRun : Nat → State
  | 0 => cartAt 0b00#2 0b10#2 5#32
  | n + 1 =>
    match runTurn (fairTurn n) (fairRun n) with
    | .next t => t
    | .fault _ => fairRun n
    | .refused _ => fairRun n

theorem fairTurn_completes (n : Nat) (s : State) : ∃ t, runTurn (fairTurn n) s = .next t := by
  unfold fairTurn
  split_ifs
  · obtain ⟨t, h, _⟩ := main_phase s; exact ⟨t, h⟩
  · obtain ⟨t, h, _⟩ := tick_phase .cart s; exact ⟨t, h⟩
  · obtain ⟨t, h, _⟩ := tick_phase .angle s; exact ⟨t, h⟩

theorem witness_AdmissibleRunsMakeProgress :
    Admissible fairTurn fairRun ∧ (fairRun 0).irq.get .cart = true := by
  refine ⟨⟨fun n => ?_, fun n => ⟨3 * n, by omega, ?_⟩, fun n e _ => ?_⟩, rfl⟩
  · obtain ⟨t, ht⟩ := fairTurn_completes n (fairRun n)
    rw [ht, fairRun, ht]
  · simp [fairTurn]
  · cases e with
    | cart => exact ⟨3 * n + 1, by omega, by rw [fairTurn, if_neg (by omega), if_pos (by omega)]⟩
    | angle => exact ⟨3 * n + 2, by omega, by rw [fairTurn, if_neg (by omega), if_neg (by omega)]⟩

end Sys2Proof.Tests.Slice0
end

section
/-! The frame of each agent's turn, said once, and with it what a turn does to the pending flags (10_state R21). -/

namespace Sys2Proof.Machine

open Sys2Proof.Safety

theorem newPins_transWord (old new : PinWord) : newPins (transWord old new) = new := by
  revert old new
  decide

/-- The table's row of a word is a serviced TICK, and the delta and phase written out in it are those of the word
(R50, R64). -/
theorem exec_decodeTrans_row (e : Encoder) (w : TransWord) :
    ∃ d new, (∀ s, exec (decodeTrans e w) s = .next (serviceTick e d new s)) ∧
      d = delta w ∧ new = newPins w := by
  obtain ⟨n, hn⟩ := w
  interval_cases n <;> exact ⟨_, _, fun _ => rfl, by decide +revert, by decide +revert⟩

theorem exec_decodeTrans (e : Encoder) (w : TransWord) (s : State) :
    exec (decodeTrans e w) s = .next (serviceTick e (delta w) (newPins w) s) := by
  obtain ⟨_, _, hrow, rfl, rfl⟩ := exec_decodeTrans_row e w
  exact hrow s

/-- A turn of a handler is the serviced TICK of the word that the state forms (R48, R64). -/
theorem runTurn_tick (e : Encoder) (s : State) :
    runTurn (.tick e) s = .next (serviceTick e (delta (tickWord s e)) (pinRead s e) s) := by
  have hnew : newPins (tickWord s e) = pinRead s e := newPins_transWord _ _
  rw [← hnew]
  exact exec_decodeTrans e (tickWord s e) s

@[simp] theorem serviceTick_irq (e : Encoder) (d : Int) (new : PinWord) (s : State) :
    (serviceTick e d new s).irq = s.irq.set e false := rfl

theorem maybeSend_sameEncoders (u : Snapshot) (s : State) : SameEncoders s (maybeSend u s) := by
  rcases maybeSend_cases u s with ⟨_, h⟩ | ⟨_, h⟩
  · rw [h]; exact ⟨rfl, rfl, rfl⟩
  · rw [h]; exact ⟨rfl, rfl, rfl⟩

theorem pollCommand_sameEncoders {s t : State} (h : pollCommand s = .next t) : SameEncoders s t := by
  rcases pollCommand_cases s with ⟨_, hp⟩ | ⟨_, _, _, _, _, _, hp⟩ | ⟨_, _, _, _, hp⟩ <;>
    · rw [hp] at h
      cases h
      exact ⟨rfl, rfl, rfl⟩

/-- MAIN writes no encoder, no pending flag and no pin, at any loop phase (R112). -/
theorem execLoopStep_sameEncoders {s t : State} (h : execLoopStep s = .next t) : SameEncoders s t := by
  cases hp : s.loop.phase with
  | l0 => rw [execLoopStep_l0 hp] at h; cases h; exact ⟨rfl, rfl, rfl⟩
  | l1 => rw [execLoopStep_l1 hp] at h; cases h; exact ⟨rfl, rfl, rfl⟩
  | l2 => rw [execLoopStep_l2 hp] at h; cases h; exact maybeSend_sameEncoders (snapshotOf s) s
  | l3 =>
    rw [execLoopStep_l3 hp] at h
    obtain ⟨u, hu, ht⟩ := andThen_eq_next h
    cases ht
    obtain ⟨henc, hirq, hpins⟩ := pollCommand_sameEncoders hu
    exact ⟨henc, hirq, hpins⟩

theorem runTurn_main_sameEncoders {s t : State} (h : runTurn .main s = .next t) : SameEncoders s t :=
  execLoopStep_sameEncoders h

theorem hostDeliver_sameEncoders (b : Byte) (s : State) : SameEncoders s (hostDeliver b s) := by
  rcases hostDeliver_cases b s with ⟨_, h⟩ | ⟨_, h⟩
  · rw [h]; exact ⟨rfl, rfl, rfl⟩
  · rw [h]; exact ⟨rfl, rfl, rfl⟩

/-! ENV's step (R21, R29). -/

@[simp] theorem envSetPins_same (e : Encoder) (s : State) : envSetPins e (s.pins.get e) s = s := by
  simp [envSetPins]

@[simp] theorem envSetPins_pins (e : Encoder) (p : PinWord) (s : State) :
    (envSetPins e p s).pins = s.pins.set e p := by
  rcases envSetPins_cases e p s with ⟨hp, h⟩ | ⟨_, h⟩
  · rw [h, ← hp, PerEncoder.set_get]
  · rw [h]; rfl

theorem envSetPins_irq_of_ne {e : Encoder} {p : PinWord} {s : State} (hp : p ≠ s.pins.get e) :
    (envSetPins e p s).irq = s.irq.set e true := by
  rw [envSetPins, if_neg hp.symm]; rfl

theorem envSetPins_irq_other {e f : Encoder} (hf : f ≠ e) (p : PinWord) (s : State) :
    (envSetPins e p s).irq.get f = s.irq.get f := by
  rcases envSetPins_cases e p s with ⟨_, h⟩ | ⟨_, h⟩
  · rw [h]
  · rw [h, State.setIrq_irq, PerEncoder.get_set_other _ hf, State.setPins_irq]

/-- ENV only sets flags. -/
theorem envSetPins_irq_of_pending {f : Encoder} {s : State} (hf : s.irq.get f = true) (e : Encoder) (p : PinWord) :
    (envSetPins e p s).irq.get f = true := by
  rcases envSetPins_cases e p s with ⟨_, h⟩ | ⟨_, h⟩
  · rw [h, hf]
  · rw [h, State.setIrq_irq, State.setPins_irq, PerEncoder.get_set, hf, ite_self]

/-- ENV writes pins and flags and nothing else. -/
theorem envSetPins_frame (e : Encoder) (p : PinWord) (s : State) :
    (envSetPins e p s).enc = s.enc ∧ SameMain s (envSetPins e p s) ∧ SameSetup s (envSetPins e p s) ∧
      (envSetPins e p s).ret = s.ret := by
  rcases envSetPins_cases e p s with ⟨_, h⟩ | ⟨_, h⟩ <;>
    · rw [h]
      exact ⟨rfl, ⟨⟨rfl, rfl⟩, ⟨rfl, rfl, rfl, rfl⟩, rfl⟩, ⟨rfl, rfl, rfl⟩, rfl⟩

theorem powerOn_irq (p q : PinWord) (s : State) (e : Encoder) : (powerOn p q s).irq.get e = false := by
  cases e <;> rfl

/-- A pending flag is taken to 0 only by the TICK of its own encoder and by power-on (R21). -/
theorem runTurn_clears_irq {turn : Turn} {s t : State} {e : Encoder} (h : runTurn turn s = .next t)
    (hs : s.irq.get e = true) (ht : t.irq.get e = false) : turn = .tick e ∨ ∃ p q, turn = .powerOn p q := by
  have flag_changed : t.irq.get e ≠ s.irq.get e := by simp [hs, ht]
  cases turn with
  | main =>
    obtain ⟨_, hirq, _⟩ := runTurn_main_sameEncoders h
    exact absurd (by rw [hirq]) flag_changed
  | tick f =>
    rw [runTurn_tick] at h
    cases h
    by_cases hf : e = f
    · exact .inl (by rw [hf])
    · exact absurd (PerEncoder.get_set_other _ hf _) flag_changed
  | deliver b =>
    cases h
    obtain ⟨_, hirq, _⟩ := hostDeliver_sameEncoders b s
    exact absurd (by rw [hirq]) flag_changed
  | setPins f p =>
    cases h
    exact absurd (by rw [envSetPins_irq_of_pending hs, hs]) flag_changed
  | powerOn p q => exact .inr ⟨p, q, rfl⟩

/-- Settles O58: ENV's step by its laws, the TICK by `runTurn_tick`, and the sole ways to clear a flag by the case
split over the turns in `runTurn_clears_irq`. -/
theorem pinChangeSetsThePendingFlag : Obligations.PinChangeSetsThePendingFlag := by
  refine ⟨fun s e p => ?_, fun s e => ?_, fun _ _ _ _ => runTurn_clears_irq, fun s e p q => ?_⟩
  · have other_kept (f : Encoder) (hf : f ≠ e) :
        (envSetPins e p s).pins.get f = s.pins.get f ∧ (envSetPins e p s).irq.get f = s.irq.get f :=
      ⟨by simp [hf], envSetPins_irq_other hf p s⟩
    have changed_sets (hp : p ≠ s.pins.get e) : (envSetPins e p s).irq.get e = true := by
      simp [envSetPins_irq_of_ne hp]
    have same_levels (hp : p = s.pins.get e) : envSetPins e p s = s := by
      rw [hp, envSetPins_same]
    exact ⟨envSetPins e p s, rfl, by simp, changed_sets, same_levels, other_kept, envSetPins_frame e p s⟩
  · exact ⟨_, runTurn_tick e s, by simp⟩
  · exact ⟨powerOn p q s, rfl, powerOn_irq p q s e⟩

end Sys2Proof.Machine
end

section
/-! The two frame formats and the pin cycle (20_instruction_set R49, R56, R57, R58): exactly which byte lists are frames
and as what they are read, how two payload bytes form a field, and the forward cycle with its inverse. -/

namespace Sys2Proof.Machine

/-! Frames (R52, R56, R58). -/

theorem decode_inbound_eq_ok_iff (bytes : List Byte) (i : Instr) :
    decode (.inbound bytes) = .ok i ↔ ∃ lo hi, bytes = [Config.rxSync, lo, hi] ∧ i = .rxf lo hi := by
  constructor
  · intro h
    simp only [decode, decodeInbound] at h
    split at h
    next sync lo hi =>
      split_ifs at h with hsync
      cases h
      exact ⟨lo, hi, by rw [hsync], rfl⟩
    next => cases h
  · rintro ⟨lo, hi, rfl, rfl⟩
    rfl

theorem decode_outbound_eq_ok_iff (bytes : List Byte) (i : Instr) :
    decode (.outbound bytes) = .ok i ↔
      ∃ a aHi b bHi, bytes = [Config.txSync, a, aHi, b, bHi] ∧ i = .txf a aHi b bHi := by
  constructor
  · intro h
    simp only [decode, decodeOutbound] at h
    split at h
    next sync a aHi b bHi =>
      split_ifs at h with hsync
      cases h
      exact ⟨a, aHi, b, bHi, by rw [hsync], rfl⟩
    next => cases h
  · rintro ⟨a, aHi, b, bHi, rfl, rfl⟩
    rfl

/-- Settles O7: the frames of each direction by what they are read as, and a transition word by `decode` being total
on it (R51). -/
theorem framesHaveFixedLength : Obligations.FramesHaveFixedLength := by
  refine ⟨fun bytes => ⟨?_, ?_⟩, fun bytes => ⟨?_, ?_⟩, fun e w => ⟨decodeTrans e w, rfl⟩⟩
  · rintro ⟨i, h⟩
    obtain ⟨lo, hi, hbytes, _⟩ := (decode_inbound_eq_ok_iff bytes i).mp h
    exact ⟨lo, hi, hbytes⟩
  · rintro ⟨lo, hi, hbytes⟩
    exact ⟨.rxf lo hi, (decode_inbound_eq_ok_iff bytes _).mpr ⟨lo, hi, hbytes, rfl⟩⟩
  · rintro ⟨i, h⟩
    obtain ⟨a, aHi, b, bHi, hbytes, _⟩ := (decode_outbound_eq_ok_iff bytes i).mp h
    exact ⟨a, aHi, b, bHi, hbytes⟩
  · rintro ⟨a, aHi, b, bHi, hbytes⟩
    exact ⟨.txf a aHi b bHi, (decode_outbound_eq_ok_iff bytes _).mpr ⟨a, aHi, b, bHi, hbytes, rfl⟩⟩

/-! Fields of two bytes and the motor speed (R32, R57). -/

theorem halfOf_toNat (lo hi : Byte) : (halfOf lo hi).toNat = lo.toNat + 256 * hi.toNat := by
  rw [halfOf, BitVec.toNat_append, ← Nat.shiftLeft_add_eq_or_of_lt lo.isLt, Nat.shiftLeft_eq]
  omega

@[simp] theorem halfOf_byteLo_byteHi (h : Half) : halfOf (byteLo h) (byteHi h) = h := by
  have hlo : (byteLo h).toNat = h.toNat % 256 := by simp [byteLo]
  have hhi : (byteHi h).toNat = h.toNat / 256 % 256 := by simp [byteHi, Nat.shiftRight_eq_div_pow]
  apply BitVec.eq_of_toNat_eq
  rw [halfOf_toNat, hlo, hhi]
  omega

theorem speedOf_eq (b1 b2 : Byte) :
    speedOf b1 b2 = if b1.toNat + 256 * b2.toNat < 32768 then (b1.toNat + 256 * b2.toNat : Int)
      else (b1.toNat + 256 * b2.toNat : Int) - 65536 := by
  rw [speedOf, BitVec.toInt_eq_toNat_cond, halfOf_toNat]
  split_ifs <;> omega

/-- The host's command `v` (R62) carries the speed `v`, over the whole signed range. -/
theorem speedOf_bytes_of_range {v : Int} (hlo : -32768 ≤ v) (hhi : v ≤ 32767) :
    speedOf (byteLo (BitVec.ofInt 16 v)) (byteHi (BitVec.ofInt 16 v)) = v := by
  rw [speedOf, halfOf_byteLo_byteHi]
  exact BitVec.toInt_ofInt_eq_self (by decide) hlo (by omega)

/-- The outcome of CMD_POLL where a whole inbound frame waits at the head of `rx` (R86, R89). -/
theorem pollCommand_of_frame {s : State} {b1 b2 : Byte} {rest : List Byte}
    (h : s.rx = Config.rxSync :: b1 :: b2 :: rest) :
    pollCommand s = .next (applySpeed (speedOf b1 b2) (s.setRx rest)) := by
  rcases pollCommand_cases s with ⟨hshort, _⟩ | ⟨b0, c1, c2, tail, hrx, hsync, _⟩ | ⟨c1, c2, tail, hrx, hpoll⟩
  · simp only [h, List.length_cons] at hshort
    omega
  · rw [h] at hrx
    cases hrx
    exact absurd rfl hsync
  · rw [h] at hrx
    cases hrx
    exact hpoll

/-- Settles O37: the value by `speedOf_eq`, every value reached by the bytes of its own command, and forwarding by
the outcome of CMD_POLL on a frame. -/
theorem everySpeedIsForwarded : Obligations.EverySpeedIsForwarded := by
  refine ⟨speedOf_eq, fun v hlo hhi => ?_, fun s b1 b2 rest hrx => ?_⟩
  · exact ⟨_, _, rfl, speedOf_bytes_of_range hlo hhi⟩
  · exact ⟨_, pollCommand_of_frame hrx, rfl⟩

/-! The pin cycle (R49). -/

@[simp] theorem prevPins_nextPins (p : PinWord) : prevPins (nextPins p) = p := by
  revert p
  decide

@[simp] theorem nextPins_prevPins (p : PinWord) : nextPins (prevPins p) = p := by
  revert p
  decide

/-- Neighbours in the cycle differ in exactly one bit: A or B changes, never both. -/
theorem xor_nextPins (p : PinWord) : p ^^^ nextPins p = 0b01#2 ∨ p ^^^ nextPins p = 0b10#2 := by
  revert p
  decide

/-- Settles O2: the written-out places of the cycle and their indices by evaluation, the rest by the laws of
`nextPins`. -/
theorem forwardCycleIsGray : Obligations.ForwardCycleIsGray :=
  ⟨rfl, rfl, rfl, rfl, rfl, rfl, rfl, rfl,
    fun p => ⟨prevPins_nextPins p, nextPins_prevPins p, xor_nextPins p⟩⟩

end Sys2Proof.Machine
end

section
/-! The Quadrature Decoder's TICK (40_quadrature_decoder R64, R65, R70, R72): what a serviced transition leaves, how the
counters wrap, and how exchanging the wires of an encoder reverses its gray step. -/

namespace Sys2Proof.Machine

open Sys2Proof.Safety

/-! What a serviced transition leaves in the fields of its encoder. -/

theorem exec_tick (e : Encoder) (s : State) :
    exec (.tick e) s = .next (serviceTick e (delta (tickWord s e)) (pinRead s e) s) := rfl

@[simp] theorem serviceTick_cfg (e : Encoder) (d : Int) (new : PinWord) (s : State) :
    (serviceTick e d new s).cfg = s.cfg := rfl

@[simp] theorem serviceTick_enc (e : Encoder) (d : Int) (new : PinWord) (s : State) :
    (serviceTick e d new s).enc = s.enc.set e (advanceEncoder s.cfg d new (s.enc.get e)) := rfl

theorem serviceTick_steps (e : Encoder) (d : Int) (new : PinWord) (s : State) :
    ((serviceTick e d new s).enc.get e).steps = (s.enc.get e).steps + BitVec.ofInt 32 d := by
  rw [serviceTick_enc, PerEncoder.get_set_same, advanceEncoder_steps]

theorem serviceTick_latched (e : Encoder) (d : Int) (new : PinWord) (s : State) :
    ((serviceTick e d new s).enc.get e).latched =
      if reloads s.cfg new then ((serviceTick e d new s).enc.get e).steps.sshiftRight 2
      else (s.enc.get e).latched := by
  rw [serviceTick_steps, serviceTick_enc, PerEncoder.get_set_same, advanceEncoder_latched]

/-! The position under both divisors (R18, R65), and the two readings of a count (R10). -/

theorem position_of_one {s : State} (h : s.cfg.latchDiv = .one) (e : Encoder) :
    position s e = (s.enc.get e).steps := by
  simp only [position, h]

theorem position_of_four {s : State} (h : s.cfg.latchDiv = .four) (e : Encoder) :
    position s e = (s.enc.get e).latched := by
  simp only [position, h]

theorem reloads_iff (p : Params) (new : PinWord) :
    reloads p new = true ↔ p.latchDiv = .four ∧ new = p.latchPhase := by
  cases h : p.latchDiv <;> simp [reloads, h]

theorem toInt_add_ofInt (c : Count) (d : Int) : (c + BitVec.ofInt 32 d).toInt = wrap32 (c.toInt + d) := by
  rw [BitVec.toInt_add, BitVec.toInt_ofInt, Int.add_bmod_bmod, wrap32]

theorem toInt_sshiftRight_two (c : Count) : (c.sshiftRight 2).toInt = c.toInt / 4 := by
  rw [BitVec.toInt_sshiftRight, Int.shiftRight_eq_div_pow]
  rfl

/-- A serviced transition has exactly the effect that R64 and R65 give it, whatever its delta and its new pin word. -/
theorem serviceTick_tickLeaves (e : Encoder) (d : Int) (new : PinWord) (s : State) :
    TickLeaves e d new s (serviceTick e d new s) where
  flag := by simp
  phase := by rw [serviceTick_enc, PerEncoder.get_set_same, advanceEncoder_phase]
  steps := by rw [serviceTick_steps, toInt_add_ofInt]
  positionOne h := position_of_one (s := serviceTick e d new s) h e
  positionReloaded h hnew := by
    rw [position_of_four (s := serviceTick e d new s) h, serviceTick_latched,
      if_pos ((reloads_iff s.cfg new).mpr ⟨h, hnew⟩), toInt_sshiftRight_two]
  positionKept h hnew := by
    have hkept : ¬ reloads s.cfg new = true := fun hr => hnew ((reloads_iff s.cfg new).mp hr).2
    rw [position_of_four (s := serviceTick e d new s) h, position_of_four h, serviceTick_latched, if_neg hkept]
  spareKept h := by
    have hkept : ¬ reloads s.cfg new = true := by simp [reloads_iff, h]
    rw [serviceTick_latched, if_neg hkept]
  others f hf := by simp [hf]
  pins := rfl
  main := ⟨⟨rfl, rfl⟩, ⟨rfl, rfl, rfl, rfl⟩, rfl⟩
  setup := ⟨rfl, rfl, rfl⟩
  ret := rfl

/-- Settles O12: TICK is the serviced transition of the word it reads, and every serviced transition leaves what R64
says. -/
theorem tickCountsItsWord : Obligations.TickCountsItsWord :=
  fun s e => ⟨_, exec_tick e s, serviceTick_tickLeaves e _ _ s⟩

/-- A TICK whose word is of class `c` counts by the delta of the class, in steps and with `LATCH_DIV` = 1 in
position. -/
theorem exec_tick_of_class {s : State} {e : Encoder} {c : TransClass} (hc : transClass (tickWord s e) = c) :
    ∃ t, exec (.tick e) s = .next t ∧ (t.enc.get e).steps.toInt = wrap32 ((s.enc.get e).steps.toInt + classDelta c) ∧
      (s.cfg.latchDiv = .one → position t e = (t.enc.get e).steps) := by
  subst hc
  have left := serviceTick_tickLeaves e (delta (tickWord s e)) (pinRead s e) s
  exact ⟨_, exec_tick e s, left.steps, left.positionOne⟩

/-- Settles O16: the two boundary sums wrap to the opposite end, and with `LATCH_DIV` = 1 the position is the
count. -/
theorem countersWrap : Obligations.CountersWrap := by
  refine fun s e => ⟨fun hmax hfwd => ?_, fun hmin hrev => ?_⟩
  · obtain ⟨t, hexec, hsteps, hposition⟩ := exec_tick_of_class hfwd
    have hwrapped : (t.enc.get e).steps.toInt = -2 ^ 31 := by
      rw [hsteps, hmax]
      rfl
    exact ⟨t, hexec, hwrapped, fun hone => by rw [hposition hone, hwrapped]⟩
  · obtain ⟨t, hexec, hsteps, hposition⟩ := exec_tick_of_class hrev
    have hwrapped : (t.enc.get e).steps.toInt = 2 ^ 31 - 1 := by
      rw [hsteps, hmin]
      rfl
    exact ⟨t, hexec, hwrapped, fun hone => by rw [hposition hone, hwrapped]⟩

/-! The gray step of a word, and the exchange of the two wires (R49, R50, R70). -/

theorem oldPins_transWord (old new : PinWord) : oldPins (transWord old new) = old := by
  revert old new
  decide

theorem grayStep_transWord (old new : PinWord) :
    grayStep (transWord old new) = (gray new + 4 - gray old) % 4 := by
  rw [grayStep, newPins_transWord, oldPins_transWord]

theorem transClass_eq_fwd_iff (w : TransWord) : transClass w = .fwd ↔ grayStep w = 1 := by
  unfold transClass
  split <;> simp_all

theorem transClass_eq_rev_iff (w : TransWord) : transClass w = .rev ↔ grayStep w = 3 := by
  unfold transClass
  split <;> simp_all

theorem gray_lt (p : PinWord) : gray p < 4 := by
  revert p
  decide

/-- Exchanging the wires fixes 00 and 11 and exchanges 10 and 01: it negates the gray index modulo 4. -/
theorem gray_exchange (a b : Bool) :
    gray (BitVec.ofBool b ++ BitVec.ofBool a) = (4 - gray (BitVec.ofBool a ++ BitVec.ofBool b)) % 4 := by
  revert a b
  decide

/-- Exchanging the wires before and after a transition negates its gray step modulo 4. -/
theorem grayStep_exchange (a b c d : Bool) :
    grayStep (transWord (BitVec.ofBool b ++ BitVec.ofBool a) (BitVec.ofBool d ++ BitVec.ofBool c)) =
      (4 - grayStep (transWord (BitVec.ofBool a ++ BitVec.ofBool b) (BitVec.ofBool c ++ BitVec.ofBool d))) % 4 := by
  have hold := gray_lt (BitVec.ofBool a ++ BitVec.ofBool b)
  have hnew := gray_lt (BitVec.ofBool c ++ BitVec.ofBool d)
  rw [grayStep_transWord, grayStep_transWord, gray_exchange a b, gray_exchange c d]
  omega

/-- Settles O3: a FWD word counts its class's delta in every state, and a gray step is 1 exactly when its negation
modulo 4 is 3. -/
theorem exchangedWiresReverseDirection : Obligations.ExchangedWiresReverseDirection := by
  refine ⟨fun s e hfwd => ?_, fun a b c d => ?_⟩
  · obtain ⟨t, hexec, hsteps, _⟩ := exec_tick_of_class hfwd
    exact ⟨t, hexec, hsteps⟩
  · rw [transClass_eq_fwd_iff, transClass_eq_rev_iff, grayStep_exchange]
    omega

end Sys2Proof.Machine
end

section
/-! The Angle Normalizer (41_angle_normalizer R73, R75): its value as a residue, and the source's single conditional
wrap beside it. Both are congruent to the raw count modulo 1200, so they agree exactly where the single wrap lands in
one revolution. -/

namespace Sys2Proof.Machine

open Sys2Proof.Safety

/-! NORMALIZE as the floored residue (R73). -/

theorem normalizeAngle_eq_emod (c : Int) : (normalizeAngle c : Int) = c % 1200 :=
  Int.toNat_of_nonneg (Int.emod_nonneg c (by decide))

theorem normalizeAngle_lt (c : Int) : normalizeAngle c < 1200 := by
  have hlt : (normalizeAngle c : Int) < 1200 := by
    rw [normalizeAngle_eq_emod]
    exact Int.emod_lt_of_pos c (by decide)
  exact_mod_cast hlt

/-- Of the integers congruent to the raw count, NORMALIZE is the one in `[0, 1200)`. -/
theorem eq_normalizeAngle_iff_of_emod_eq {a c : Int} (hmod : a % 1200 = c % 1200) :
    a = (normalizeAngle c : Int) ↔ 0 ≤ a ∧ a < 1200 := by
  constructor
  · rintro rfl
    exact ⟨Int.natCast_nonneg _, by exact_mod_cast normalizeAngle_lt c⟩
  · rintro ⟨hnonneg, hlt⟩
    rw [normalizeAngle_eq_emod, ← hmod, Int.emod_eq_of_lt hnonneg hlt]

/-! The single conditional wrap (R75). -/

/-- The source's reference behaviour: at most one addition or subtraction of the modulus. -/
def singleWrap (c : Int) : Int := if c < 0 then c + 1200 else if 1200 ≤ c then c - 1200 else c

theorem singleWrap_emod (c : Int) : singleWrap c % 1200 = c % 1200 := by
  unfold singleWrap
  split_ifs
  · exact Int.add_emod_right c 1200
  · exact Int.sub_emod_right c 1200
  · rfl

theorem singleWrap_mem_revolution_iff (c : Int) :
    (0 ≤ singleWrap c ∧ singleWrap c < 1200) ↔ (-1200 ≤ c ∧ c < 2400) := by
  unfold singleWrap
  split_ifs <;> omega

/-- Settles O26: the single wrap keeps the residue, so it is NORMALIZE exactly where it lands in `[0, 1200)`, and it
lands there exactly on `[-1200, 2400)`. -/
theorem singleWrapAgreesOnlyNearby : Obligations.SingleWrapAgreesOnlyNearby := fun c =>
  have hrange := singleWrap_mem_revolution_iff c
  ⟨(eq_normalizeAngle_iff_of_emod_eq (singleWrap_emod c)).trans hrange, mt hrange.mp⟩

end Sys2Proof.Machine
end

section
/-! The Telemetry Encoder (42_telemetry_encoder R52, R79, R80, R84): the fields that a frame carries, what MAYBE_SEND
leaves alone, and the independence of the report at L2 and the receive at L3. -/

namespace Sys2Proof.Machine

open Sys2Proof.Safety

/-! The snapshot and the fields of its frame (R32, R53, R54, R78). -/

/-- The snapshot of a state is the only one with the cart sample and the floored residue of the angle sample. -/
theorem eq_snapshotOf {u : Snapshot} {s : State} (hcart : u.cart = s.loop.cart)
    (hangle : (u.angle : Int) = s.loop.angleRaw.toInt.fmod 1200) : u = snapshotOf s := by
  have hnormalized : u.angle = normalizeAngle s.loop.angleRaw.toInt := by
    rw [Int.fmod_eq_emod_of_nonneg _ (by decide), ← normalizeAngle_eq_emod] at hangle
    exact_mod_cast hangle
  cases u
  simp_all [snapshotOf]

theorem snapshotOf_congr {s s' : State} (h : s.loop = s'.loop) : snapshotOf s = snapshotOf s' := by
  rw [snapshotOf, snapshotOf, h]

theorem byteLo_add_byteHi (h : Half) : (byteLo h).toNat + 256 * (byteHi h).toNat = h.toNat := by
  rw [← halfOf_toNat, halfOf_byteLo_byteHi]

/-- Field A is the cart modulo 65536, whichever way the cart's sign is read (R53). -/
theorem fieldA_toNat (u : Snapshot) : ((fieldA u).toNat : Int) = u.cart.toInt % 65536 := by
  rw [fieldA, low16, BitVec.toNat_setWidth, BitVec.toInt_eq_toNat_cond]
  split_ifs <;> omega

/-- A normalized angle fits field B (R54). -/
theorem fieldB_toNat {u : Snapshot} (h : u.angle < 1200) : (fieldB u).toNat = u.angle := by
  rw [fieldB, BitVec.toNat_ofNat, Nat.mod_eq_of_lt (by omega)]

/-! MAYBE_SEND (R79, R80). -/

theorem exec_maybeSend (s : State) : exec .maybeSend s = .next (maybeSend (snapshotOf s) s) := rfl

theorem maybeSend_of_sent {u : Snapshot} {s : State} (h : s.lastSent = some u) : maybeSend u s = s := by
  rcases maybeSend_cases u s with ⟨_, hsend⟩ | ⟨hchanged, _⟩
  · exact hsend
  · exact absurd h hchanged

theorem maybeSend_of_changed {u : Snapshot} {s : State} (h : s.lastSent ≠ some u) :
    maybeSend u s = (s.setTx (s.tx ++ txFrame u)).setLastSent (some u) := by
  rcases maybeSend_cases u s with ⟨hsent, _⟩ | ⟨_, hsend⟩
  · exact absurd hsent h
  · exact hsend

/-- Beside the encoders (`maybeSend_sameEncoders`), MAYBE_SEND leaves all but the telemetry half. -/
theorem maybeSend_frame (u : Snapshot) (s : State) :
    SameReceive s (maybeSend u s) ∧ SameLoop s (maybeSend u s) ∧ SameSetup s (maybeSend u s) ∧
      (maybeSend u s).ret = s.ret := by
  rcases maybeSend_cases u s with ⟨_, h⟩ | ⟨_, h⟩ <;>
    · rw [h]
      exact ⟨⟨rfl, rfl, rfl, rfl⟩, rfl, ⟨rfl, rfl, rfl⟩, rfl⟩

/-- Settles O28: the snapshot is the one of the state, so the gate is its comparison with `last_sent`; the payload
bytes are the two fields. -/
theorem maybeSendWritesOneFrame : Obligations.MaybeSendWritesOneFrame := by
  intro s u hcart hangle
  obtain rfl := eq_snapshotOf hcart hangle
  refine ⟨fun hsent => ?_, fun hchanged => ?_⟩
  · rw [exec_maybeSend, maybeSend_of_sent hsent]
  · have hsend := maybeSend_of_changed hchanged
    have hfieldA := fieldA_toNat (snapshotOf s)
    rw [← byteLo_add_byteHi] at hfieldA
    have hfieldB : (fieldB (snapshotOf s)).toNat = (snapshotOf s).angle := fieldB_toNat (normalizeAngle_lt _)
    rw [← byteLo_add_byteHi] at hfieldB
    obtain ⟨hreceive, hloop, hsetup, hret⟩ := maybeSend_frame (snapshotOf s) s
    exact ⟨_, _, _, _, _, exec_maybeSend s, by rw [hsend]; rfl, by exact_mod_cast hfieldA, hfieldB, by rw [hsend]; rfl,
      maybeSend_sameEncoders _ s, hreceive, hloop, hsetup, hret⟩

/-! The report reads the telemetry half alone, the receive the receive half alone (R84). -/

theorem maybeSend_congr {s s' : State} (u : Snapshot) (h : SameTelemetry s s') :
    SameTelemetry (maybeSend u s) (maybeSend u s') := by
  obtain ⟨hlast, htx⟩ := h
  by_cases hsent : s.lastSent = some u
  · rw [maybeSend_of_sent hsent, maybeSend_of_sent (hlast.trans hsent)]
    exact ⟨hlast, htx⟩
  · have hsent' : s'.lastSent ≠ some u := by rwa [hlast]
    rw [maybeSend_of_changed hsent, maybeSend_of_changed hsent']
    exact ⟨rfl, by simp [htx]⟩

theorem pollCommand_of_short {s : State} (h : s.rx.length < 3) : pollCommand s = .next s := if_pos h

/-- The outcome of CMD_POLL where three bytes wait behind another head byte than the sync byte (R86, R88). -/
theorem pollCommand_of_garbage {s : State} {b0 b1 b2 : Byte} {rest : List Byte}
    (h : s.rx = b0 :: b1 :: b2 :: rest) (hb : b0 ≠ Config.rxSync) :
    pollCommand s = .next (s.setRx (b1 :: b2 :: rest)) := by
  rcases pollCommand_cases s with ⟨hshort, _⟩ | ⟨c0, c1, c2, tail, hrx, _, hpoll⟩ | ⟨c1, c2, tail, hrx, _⟩
  · simp only [h, List.length_cons] at hshort
    omega
  · rw [h] at hrx
    cases hrx
    exact hpoll
  · rw [h] at hrx
    cases hrx
    exact absurd rfl hb

theorem applySpeed_congr {s s' : State} (v : Int) (h : SameReceive s s') :
    SameReceive (applySpeed v s) (applySpeed v s') := by
  obtain ⟨hrx, hmotor, hled, hhistory⟩ := h
  exact ⟨hrx, by simp [hmotor], rfl, by rw [applySpeed_ledHistory, applySpeed_ledHistory, hled, hhistory]⟩

theorem pollCommand_sameTelemetry {s t : State} (h : pollCommand s = .next t) : SameTelemetry s t := by
  rcases pollCommand_cases s with ⟨_, hp⟩ | ⟨_, _, _, _, _, _, hp⟩ | ⟨_, _, _, _, hp⟩ <;>
    · rw [hp] at h
      cases h
      exact ⟨rfl, rfl⟩

/-- Two states with the same receive half take the same outcome of CMD_POLL, to the same receive half. -/
theorem pollCommand_congr {s s' : State} (h : SameReceive s s') :
    ∃ t t', pollCommand s = .next t ∧ pollCommand s' = .next t' ∧ SameReceive t t' := by
  have ⟨hrx, hrest⟩ := h
  rcases pollCommand_cases s with
    ⟨hshort, hpoll⟩ | ⟨b0, b1, b2, rest, hbytes, hsync, hpoll⟩ | ⟨b1, b2, rest, hbytes, hpoll⟩
  · exact ⟨_, _, hpoll, pollCommand_of_short (by rwa [hrx]), h⟩
  · exact ⟨_, _, hpoll, pollCommand_of_garbage (hrx.trans hbytes) hsync, rfl, hrest⟩
  · have hshrunk : SameReceive (s.setRx rest) (s'.setRx rest) := ⟨rfl, hrest⟩
    exact ⟨_, _, hpoll, pollCommand_of_frame (hrx.trans hbytes), applySpeed_congr _ hshrunk⟩

theorem exec_loopStep_l2 {s : State} (h : s.loop.phase = .l2) :
    exec .loopStep s = .next ((maybeSend (snapshotOf s) s).setLoopPhase .l3) := execLoopStep_l2 h

theorem exec_loopStep_l3 {s t : State} (h : s.loop.phase = .l3) (hpoll : pollCommand s = .next t) :
    exec .loopStep s = .next (t.setLoopPhase .l0) := by
  have hstep : exec .loopStep s = _ := execLoopStep_l3 h
  rw [hstep, hpoll, andThen_next]

/-- Settles O32: each half of the step is a congruence for its own half of the state and leaves the other; the loop
phase it moves to belongs to neither. -/
theorem halvesAreIndependent : Obligations.HalvesAreIndependent := by
  refine ⟨fun s s' hloop hphase hsame => ?_, fun s s' hphase hphase' hsame => ?_⟩
  · have hphase' : s'.loop.phase = .l2 := hloop ▸ hphase
    obtain ⟨hreceive, _⟩ := maybeSend_frame (snapshotOf s) s
    obtain ⟨hreceive', _⟩ := maybeSend_frame (snapshotOf s') s'
    have hreport : SameTelemetry (maybeSend (snapshotOf s) s) (maybeSend (snapshotOf s') s') := by
      rw [snapshotOf_congr hloop]
      exact maybeSend_congr _ hsame
    exact ⟨_, _, exec_loopStep_l2 hphase, exec_loopStep_l2 hphase', hreport, hreceive, hreceive'⟩
  · obtain ⟨t, t', hpoll, hpoll', hreceive⟩ := pollCommand_congr hsame
    have htelemetry : SameTelemetry s t := pollCommand_sameTelemetry hpoll
    have htelemetry' : SameTelemetry s' t' := pollCommand_sameTelemetry hpoll'
    exact ⟨_, _, exec_loopStep_l3 hphase hpoll, exec_loopStep_l3 hphase' hpoll', hreceive, htelemetry, htelemetry'⟩

end Sys2Proof.Machine
end

section
/-! The Command Decoder (43_command_decoder R87, R88, R90): the two outcomes of CMD_POLL that apply no speed, what
CMD_DISCARD and CMD_DECODE did where they completed, and who writes the motor log and the indicator. -/

namespace Sys2Proof.Machine

open Sys2Proof.Safety

/-! The outcomes without a speed (R87, R88). -/

/-- Settles O34: on another head byte than the sync byte CMD_POLL only replaces `rx`, so every other field is as it
was. -/
theorem pollDiscardsOneByte : Obligations.PollDiscardsOneByte := by
  intro s b0 b1 b2 rest hrx hhead
  have hencoders : SameEncoders s (s.setRx (b1 :: b2 :: rest)) := ⟨rfl, rfl, rfl⟩
  have htelemetry : SameTelemetry s (s.setRx (b1 :: b2 :: rest)) := ⟨rfl, rfl⟩
  have hsetup : SameSetup s (s.setRx (b1 :: b2 :: rest)) := ⟨rfl, rfl, rfl⟩
  exact ⟨_, pollCommand_of_garbage hrx hhead, rfl, rfl, rfl, rfl, hencoders, htelemetry, rfl, hsetup, rfl⟩

/-- Settles O33: CMD_WAIT is the identity, and CMD_POLL below three bytes is `pollCommand_of_short`. -/
theorem pollWaitsBelowThreeBytes : Obligations.PollWaitsBelowThreeBytes :=
  fun _ => ⟨rfl, pollCommand_of_short⟩

/-! CMD_DISCARD and CMD_DECODE where they completed (R88, R89). -/

theorem exec_cmdDiscard_eq_next {b0 : Byte} {s t : State} (h : exec (.cmdDiscard b0) s = .next t) :
    ∃ b rest, s.rx = b :: rest ∧ t = s.setRx rest := by
  obtain ⟨⟨b, u⟩, hread, hdrop⟩ := andThen_eq_next h
  obtain ⟨hrx, hu⟩ := rxRead_eq_next hread
  cases hdrop
  exact ⟨b, u.rx, hrx, hu⟩

theorem decodeSpeed_eq_next {s t : State} (h : decodeSpeed s = .next t) :
    ∃ b1 b2 rest, s.rx = b1 :: b2 :: rest ∧ t = applySpeed (speedOf b1 b2) (s.setRx rest) := by
  obtain ⟨⟨b1, u⟩, hread, htail⟩ := andThen_eq_next h
  obtain ⟨⟨b2, v⟩, hread', happly⟩ := andThen_eq_next htail
  have hrx : s.rx = b1 :: b2 :: v.rx := by
    obtain ⟨hrx, _⟩ := rxRead_eq_next hread
    obtain ⟨hrx', _⟩ := rxRead_eq_next hread'
    rw [hrx, hrx']
  have hdecode := decodeSpeed_cons hrx
  rw [h] at hdecode
  cases hdecode
  exact ⟨b1, b2, v.rx, hrx, rfl⟩

theorem exec_cmdDecode_eq_next {s t : State} (h : exec .cmdDecode s = .next t) :
    ∃ b0 b1 b2 rest, s.rx = b0 :: b1 :: b2 :: rest ∧ t = applySpeed (speedOf b1 b2) (s.setRx rest) := by
  obtain ⟨⟨b0, u⟩, hread, hdecode⟩ := andThen_eq_next h
  obtain ⟨hrx, hu⟩ := rxRead_eq_next hread
  obtain ⟨b1, b2, rest, hrest, ht⟩ := decodeSpeed_eq_next hdecode
  exact ⟨b0, b1, b2, rest, by rw [hrx, hrest], by rw [ht, hu, setRx_setRx]⟩

theorem ledLevel_eq_true_iff (v : Int) : ledLevel v = true ↔ v ≠ 0 := bne_iff_ne

/-! Who leaves the outputs alone (R90). -/

/-- The indicator, its history and the motor log are the same. -/
def SameOutputs (s t : State) : Prop := t.led = s.led ∧ t.ledHistory = s.ledHistory ∧ t.motor = s.motor

theorem sameOutputs_of_sameReceive {s t : State} (h : SameReceive s t) : SameOutputs s t := by
  obtain ⟨_, hmotor, hled, hhistory⟩ := h
  exact ⟨hled, hhistory, hmotor⟩

theorem setRx_sameOutputs (s : State) (l : List Byte) : SameOutputs s (s.setRx l) := ⟨rfl, rfl, rfl⟩

theorem serviceTick_sameOutputs (e : Encoder) (d : Int) (new : PinWord) (s : State) :
    SameOutputs s (serviceTick e d new s) := ⟨rfl, rfl, rfl⟩

theorem maybeSend_sameOutputs (u : Snapshot) (s : State) : SameOutputs s (maybeSend u s) := by
  obtain ⟨hreceive, _⟩ := maybeSend_frame u s
  exact sameOutputs_of_sameReceive hreceive

theorem envSetPins_sameOutputs (e : Encoder) (p : PinWord) (s : State) : SameOutputs s (envSetPins e p s) := by
  obtain ⟨_, ⟨_, hreceive, _⟩, _⟩ := envSetPins_frame e p s
  exact sameOutputs_of_sameReceive hreceive

theorem hostDeliver_sameOutputs (b : Byte) (s : State) : SameOutputs s (hostDeliver b s) := by
  rcases hostDeliver_cases b s with ⟨_, h⟩ | ⟨_, h⟩
  · rw [h]; exact setRx_sameOutputs s _
  · rw [h]; exact ⟨rfl, rfl, rfl⟩

/-- Every row of the transition table is a serviced TICK, whatever its delta and its new pin word. -/
theorem exec_of_transFormat {i : Instr} (h : instrFormat i = .trans) :
    ∃ e d new, ∀ s, exec i s = .next (serviceTick e d new s) := by
  cases i <;> cases h <;> exact ⟨_, _, _, fun _ => rfl⟩

/-- The instructions that consume no inbound frame leave the outputs alone. -/
theorem exec_sameOutputs {i : Instr} {s t : State} (h : exec i s = .next t) (hdecode : i ≠ .cmdDecode)
    (hpoll : i ≠ .cmdPoll) (hloop : i ≠ .loopStep) (hrxf : ∀ lo hi, i ≠ .rxf lo hi) : SameOutputs s t := by
  by_cases htrans : instrFormat i = .trans
  · obtain ⟨e, d, new, hrow⟩ := exec_of_transFormat htrans
    rw [hrow] at h
    cases h
    exact serviceTick_sameOutputs e d new s
  · cases i with
    | tick e => rw [exec_tick] at h; cases h; exact serviceTick_sameOutputs e _ _ s
    | maybeSend => rw [exec_maybeSend] at h; cases h; exact maybeSend_sameOutputs _ s
    | cmdDiscard b0 =>
      obtain ⟨_, rest, _, rfl⟩ := exec_cmdDiscard_eq_next h
      exact setRx_sameOutputs s rest
    | getPosition e => cases h; exact ⟨rfl, rfl, rfl⟩
    | normalize => cases h; exact ⟨rfl, rfl, rfl⟩
    | snapshot => cases h; exact ⟨rfl, rfl, rfl⟩
    | cmdWait => cases h; exact ⟨rfl, rfl, rfl⟩
    | txf a aHi b bHi => cases h; exact ⟨rfl, rfl, rfl⟩
    | cmdDecode => exact absurd rfl hdecode
    | cmdPoll => exact absurd rfl hpoll
    | loopStep => exact absurd rfl hloop
    | rxf lo hi => exact absurd rfl (hrxf lo hi)
    | _ => exact absurd rfl htrans

/-! Who drives them. -/

/-- The whole inbound frame at the head of `s.rx` drove the outputs of `t`. -/
def FrameDrives (s t : State) : Prop :=
  ∃ b1 b2 rest, s.rx = Config.rxSync :: b1 :: b2 :: rest ∧
    t.motor = s.motor ++ [speedOf b1 b2] ∧ (t.led = true ↔ speedOf b1 b2 ≠ 0)

theorem pollCommand_outputs {s t : State} (h : pollCommand s = .next t) : SameOutputs s t ∨ FrameDrives s t := by
  rcases pollCommand_cases s with ⟨_, hpoll⟩ | ⟨_, _, _, _, _, _, hpoll⟩ | ⟨b1, b2, rest, hrx, hpoll⟩
  · rw [hpoll] at h; cases h; exact .inl ⟨rfl, rfl, rfl⟩
  · rw [hpoll] at h; cases h; exact .inl (setRx_sameOutputs s _)
  · rw [hpoll] at h; cases h; exact .inr ⟨b1, b2, rest, hrx, rfl, ledLevel_eq_true_iff _⟩

/-- A MAIN step drives the outputs only where its CMD_POLL does, at L3 (R95). -/
theorem execLoopStep_outputs {s t : State} (h : execLoopStep s = .next t) :
    SameOutputs s t ∨ s.loop.phase = .l3 ∧ FrameDrives s t := by
  cases hphase : s.loop.phase with
  | l0 => rw [execLoopStep_l0 hphase] at h; cases h; exact .inl ⟨rfl, rfl, rfl⟩
  | l1 => rw [execLoopStep_l1 hphase] at h; cases h; exact .inl ⟨rfl, rfl, rfl⟩
  | l2 => rw [execLoopStep_l2 hphase] at h; cases h; exact .inl (maybeSend_sameOutputs (snapshotOf s) s)
  | l3 =>
    rw [execLoopStep_l3 hphase] at h
    obtain ⟨u, hpoll, ht⟩ := andThen_eq_next h
    cases ht
    exact (pollCommand_outputs hpoll).imp_right fun hdrives => ⟨rfl, hdrives⟩

theorem runTurn_outputs {turn : Turn} {s t : State} (h : runTurn turn s = .next t)
    (hpower : ∀ p q, turn ≠ .powerOn p q) :
    SameOutputs s t ∨ turn = .main ∧ s.loop.phase = .l3 ∧ FrameDrives s t := by
  cases turn with
  | main => exact (execLoopStep_outputs h).imp_right fun hdrives => ⟨rfl, hdrives⟩
  | tick e => rw [runTurn_tick] at h; cases h; exact .inl (serviceTick_sameOutputs e _ _ s)
  | deliver b => cases h; exact .inl (hostDeliver_sameOutputs b s)
  | setPins e p => cases h; exact .inl (envSetPins_sameOutputs e p s)
  | powerOn p q => exact absurd rfl (hpower p q)

/-- Settles O41: CMD_DECODE by what it did where it completed, the other instructions by `exec_sameOutputs`, the turns
by `runTurn_outputs`. -/
theorem onlyDecodeDrivesOutputs : Obligations.OnlyDecodeDrivesOutputs := by
  refine ⟨fun s t h => ?_, fun _ _ _ => exec_sameOutputs, fun _ _ _ => runTurn_outputs⟩
  obtain ⟨_, b1, b2, rest, _, rfl⟩ := exec_cmdDecode_eq_next h
  exact ⟨speedOf b1 b2, rfl, ledLevel_eq_true_iff _⟩

end Sys2Proof.Machine
end

section
/-! The Control Loop (44_control_loop R95): LOOP_STEP phase by phase. L2 and L3 are MAYBE_SEND and CMD_POLL followed by
the move of the phase, so their frames are those of the two operations. -/

namespace Sys2Proof.Machine

open Sys2Proof.Safety

/-- Beside the encoders (`pollCommand_sameEncoders`) and the telemetry half (`pollCommand_sameTelemetry`), CMD_POLL
leaves the loop registers, the setup and the returned value. -/
theorem pollCommand_frame {s t : State} (h : pollCommand s = .next t) :
    SameLoop s t ∧ SameSetup s t ∧ t.ret = s.ret := by
  rcases pollCommand_cases s with ⟨_, hpoll⟩ | ⟨_, _, _, _, _, _, hpoll⟩ | ⟨_, _, _, _, hpoll⟩ <;>
    · rw [hpoll] at h
      cases h
      exact ⟨rfl, ⟨rfl, rfl, rfl⟩, rfl⟩

theorem setLoopPhase_loop_of_sameLoop {s u : State} (h : SameLoop s u) (p : LoopPhase) :
    (u.setLoopPhase p).loop = { phase := p, cart := s.loop.cart, angleRaw := s.loop.angleRaw } := by
  have hloop : u.loop = s.loop := h
  rw [State.setLoopPhase_loop, hloop]

theorem exec_loopStep_l0 {s : State} (h : s.loop.phase = .l0) :
    exec .loopStep s = .next ((s.setLoopCart (position s .cart)).setLoopPhase .l1) := execLoopStep_l0 h

theorem exec_loopStep_l1 {s : State} (h : s.loop.phase = .l1) :
    exec .loopStep s = .next ((s.setLoopAngleRaw (position s .angle)).setLoopPhase .l2) := execLoopStep_l1 h

/-- Settles O42: L0 and L1 write one loop register each; L2 and L3 keep what MAYBE_SEND and CMD_POLL left and, but
for the phase, have the frame of that operation. -/
theorem loopStepRunsItsPhase : Obligations.LoopStepRunsItsPhase := by
  refine fun s => ⟨fun hphase => ?l0, fun hphase => ?l1, fun hphase => ?l2, fun hphase => ?l3⟩
  case l0 =>
    exact ⟨_, exec_loopStep_l0 hphase, rfl, ⟨rfl, rfl, rfl⟩, ⟨rfl, rfl⟩, ⟨rfl, rfl, rfl, rfl⟩, ⟨rfl, rfl, rfl⟩, rfl⟩
  case l1 =>
    exact ⟨_, exec_loopStep_l1 hphase, rfl, ⟨rfl, rfl, rfl⟩, ⟨rfl, rfl⟩, ⟨rfl, rfl, rfl, rfl⟩, ⟨rfl, rfl, rfl⟩, rfl⟩
  case l2 =>
    have hencoders := maybeSend_sameEncoders (snapshotOf s) s
    obtain ⟨hreceive, hloop, hsetup, hret⟩ := maybeSend_frame (snapshotOf s) s
    exact ⟨_, _, exec_maybeSend s, exec_loopStep_l2 hphase, setLoopPhase_loop_of_sameLoop hloop .l3, ⟨rfl, rfl⟩,
      hencoders, hreceive, hsetup, hret⟩
  case l3 =>
    obtain ⟨u, hpoll⟩ := pollCommand_next s
    have hencoders := pollCommand_sameEncoders hpoll
    have htelemetry := pollCommand_sameTelemetry hpoll
    obtain ⟨hloop, hsetup, hret⟩ := pollCommand_frame hpoll
    exact ⟨u, _, hpoll, exec_loopStep_l3 hphase hpoll, setLoopPhase_loop_of_sameLoop hloop .l0, ⟨rfl, rfl, rfl, rfl⟩,
      hencoders, htelemetry, hsetup, hret⟩

end Sys2Proof.Machine
end

section
/-! The reset procedure (70_reset_and_hazards R117): what power-on leaves, one law per part of the state. The encoder
parts are said once for both encoders, in terms of the pins just sampled. -/

namespace Sys2Proof.Machine

/-- Each encoder is reset from its own sampled pins, which set its latch phase (R117). -/
theorem powerOn_enc (p0 p1 : PinWord) (s : State) (e : Encoder) :
    (powerOn p0 p1 s).enc.get e = resetEncoder ((powerOn p0 p1 s).pins.get e) := by
  cases e <;> rfl

/-- The position is 0 under both divisors: the count and the latched position are both reset. -/
theorem position_powerOn (p0 p1 : PinWord) (s : State) (e : Encoder) : position (powerOn p0 p1 s) e = 0 := by
  cases hdiv : (powerOn p0 p1 s).cfg.latchDiv with
  | one => rw [position_of_one hdiv, powerOn_enc, resetEncoder]
  | four => rw [position_of_four hdiv, powerOn_enc, resetEncoder]

theorem powerOn_lastSent (p0 p1 : PinWord) (s : State) :
    (powerOn p0 p1 s).lastSent = resetLastSent s.cfg.lastSentInit := rfl

/-- Settles O52: the encoders by `powerOn_enc` and `position_powerOn`, the flags by `powerOn_irq`, the change gate by
the parameter's value; the other parts are written out in the procedure. -/
theorem powerOnLeavesResetValues : Obligations.PowerOnLeavesResetValues := by
  intro s p0 p1
  have encoder_reset (e : Encoder) :
      ((powerOn p0 p1 s).enc.get e).phase = (powerOn p0 p1 s).pins.get e ∧
      ((powerOn p0 p1 s).enc.get e).steps.toInt = 0 ∧ (position (powerOn p0 p1 s) e).toInt = 0 ∧
      (powerOn p0 p1 s).irq.get e = false := by
    rw [powerOn_enc, position_powerOn]
    exact ⟨rfl, rfl, rfl, powerOn_irq p0 p1 s e⟩
  have gate_none (h : s.cfg.lastSentInit = .none) : (powerOn p0 p1 s).lastSent = none := by
    rw [powerOn_lastSent, h, resetLastSent]
  have gate_zero (h : s.cfg.lastSentInit = .zero) :
      (powerOn p0 p1 s).lastSent = some { cart := 0, angle := 0 } := by
    rw [powerOn_lastSent, h, resetLastSent]
  exact ⟨_, rfl, rfl, encoder_reset, gate_none, gate_zero, rfl, rfl, rfl, rfl, rfl, rfl⟩

end Sys2Proof.Machine
end

section
/-! Encodings (30_encoding R46, R48, R50, R52, R56): the decoder and the encoder undo each other, format by format, and
the transition table is what the gray index gives. -/

namespace Sys2Proof.Machine

/-! The decoder and the encoder. -/

theorem encode_decodeTrans (e : Encoder) (w : TransWord) : encode (decodeTrans e w) = some (.trans e w) := by
  obtain ⟨n, hn⟩ := w
  interval_cases n <;> rfl

theorem decodeHead_sync : decodeHead Config.rxSync = .cmdDecode := if_pos rfl

theorem decodeHead_of_ne {b : Byte} (h : b ≠ Config.rxSync) : decodeHead b = .cmdDiscard b := if_neg h

theorem wellFormed_cmdDiscard_iff (b : Byte) : (Instr.cmdDiscard b).wellFormed = true ↔ b ≠ Config.rxSync :=
  bne_iff_ne

theorem wellFormed_decodeTrans (e : Encoder) (w : TransWord) : (decodeTrans e w).wellFormed = true := by
  obtain ⟨n, hn⟩ := w
  interval_cases n <;> rfl

/-- CMD_DISCARD's word is CMD_DECODE's when its operand is the sync byte, which a well-formed operand is not; every other
word holds the whole of its instruction. -/
theorem decode_of_encode {i : Instr} {c : Code} (hwf : i.wellFormed = true) (h : encode i = some c) :
    decode c = .ok i := by
  cases i with
  | cmdDiscard b =>
    cases h
    rw [decode, decodeHead_of_ne ((wellFormed_cmdDiscard_iff b).mp hwf)]
  | _ => cases h <;> rfl

/-- The word of every instruction is of the format of its row, and a row without a word is an OP row. -/
theorem encode_format (i : Instr) : (encode i).elim Format.op codeFormat = instrFormat i := by
  cases i <;> rfl

theorem codeFormat_ne_op (c : Code) : codeFormat c ≠ .op := by
  cases c <;> simp [codeFormat]

theorem encode_eq_none_iff (i : Instr) : encode i = none ↔ instrFormat i = .op := by
  rw [← encode_format]
  cases encode i with
  | none => simp
  | some c => simp [codeFormat_ne_op]

/-- Settles O5: the words by `decode_of_encode`, the instructions without one by their formats. -/
theorem decodeOfEncode : Obligations.DecodeOfEncode :=
  ⟨fun _ _ => decode_of_encode, encode_eq_none_iff⟩

/-- Settles O6, by the format of the word: total formats by their rows, the frames by what they are read as. -/
theorem encodeOfDecode : Obligations.EncodeOfDecode := by
  intro c i h
  cases c with
  | trans e w =>
    cases h
    exact ⟨wellFormed_decodeTrans e w, encode_decodeTrans e w⟩
  | head b =>
    cases h
    by_cases hb : b = Config.rxSync
    · rw [hb, decodeHead_sync]
      exact ⟨rfl, rfl⟩
    · rw [decodeHead_of_ne hb]
      exact ⟨(wellFormed_cmdDiscard_iff b).mpr hb, rfl⟩
  | inbound bytes =>
    obtain ⟨lo, hi, rfl, rfl⟩ := (decode_inbound_eq_ok_iff bytes i).mp h
    exact ⟨rfl, rfl⟩
  | outbound bytes =>
    obtain ⟨a, aHi, b, bHi, rfl, rfl⟩ := (decode_outbound_eq_ok_iff bytes i).mp h
    exact ⟨rfl, rfl⟩

/-- Settles O4: every written-out word evaluates to its instruction. -/
theorem writtenWordsDecode : Obligations.WrittenWordsDecode :=
  ⟨rfl, rfl, rfl, rfl, rfl, rfl, rfl, rfl⟩

/-! The transition table (R50). -/

/-- The gray step is the floored residue of the difference of the gray indices. -/
theorem grayStep_eq_emod (w : TransWord) :
    grayStep w = (((gray (newPins w) : Int) - (gray (oldPins w) : Int)) % 4).toNat := by
  have hold := gray_lt (oldPins w)
  rw [grayStep]
  omega

/-- Settles O1: the sixteen rows by evaluation; in the formula the gray step is that residue, and of each of its values
the class has the delta written out. -/
theorem transitionTableFollowsGrayIndex : Obligations.TransitionTableFollowsGrayIndex := by
  refine ⟨by decide, fun w => ?_⟩
  rw [← grayStep_eq_emod, delta, transClass]
  rcases grayStep w with _ | _ | _ | _ | _ <;> rfl

end Sys2Proof.Machine
end

section
/-! The Quadrature Decoder's words (30_encoding R50; 40_quadrature_decoder R64; 60_exceptions R106, R107): the rows of each
class, the TICK as its row, the TICK that finds nothing changed, and the TICKs of both encoders in either order. -/

namespace Sys2Proof.Machine

open Sys2Proof.Safety

/-! The rows of the table (R50). -/

/-- A list of rows that are serviced transitions of `d` counts leaves what R64 says, row by row. -/
theorem rows_tickLeaves {rows : List (Instr × PinWord)} {e : Encoder} {d : Int} {s : State}
    (hrows : ∀ r ∈ rows, exec r.1 s = .next (serviceTick e d r.2 s)) :
    ∀ r ∈ rows, ∃ t, exec r.1 s = .next t ∧ TickLeaves e d r.2 s t :=
  fun r hr => ⟨_, hrows r hr, serviceTick_tickLeaves e d r.2 s⟩

/-- Settles O8: each of the four rows is a serviced transition of no count to its new pin word. -/
theorem nullWordsLeaveCount : Obligations.NullWordsLeaveCount := by
  refine fun s e => rows_tickLeaves ?_
  simp only [List.forall_mem_cons]
  exact ⟨rfl, rfl, rfl, rfl, nofun⟩

/-- Settles O9: each of the four rows is a serviced transition of one count up to its new pin word. -/
theorem forwardWordsCountUp : Obligations.ForwardWordsCountUp := by
  refine fun s e => rows_tickLeaves ?_
  simp only [List.forall_mem_cons]
  exact ⟨rfl, rfl, rfl, rfl, nofun⟩

/-- Settles O10: each of the four rows is a serviced transition of one count down to its new pin word. -/
theorem reverseWordsCountDown : Obligations.ReverseWordsCountDown := by
  refine fun s e => rows_tickLeaves ?_
  simp only [List.forall_mem_cons]
  exact ⟨rfl, rfl, rfl, rfl, nofun⟩

/-- Settles O11: each of the four rows is a serviced transition of no count to its new pin word. -/
theorem invalidWordsResynchronise : Obligations.InvalidWordsResynchronise := by
  refine fun s e => rows_tickLeaves ?_
  simp only [List.forall_mem_cons]
  exact ⟨rfl, rfl, rfl, rfl, nofun⟩

/-- Settles O13: TICK and the row of its word are the same serviced transition. -/
theorem tickIsItsTransitionRow : Obligations.TickIsItsTransitionRow :=
  fun s e => (exec_tick e s).trans (runTurn_tick e s).symm

/-! The words of one place forward, one place back, and none (R49, R50). -/

@[simp] theorem transClass_same (p : PinWord) : transClass (transWord p p) = .null := by
  revert p
  decide

@[simp] theorem transClass_nextPins (p : PinWord) : transClass (transWord p (nextPins p)) = .fwd := by
  revert p
  decide

@[simp] theorem transClass_prevPins (p : PinWord) : transClass (transWord p (prevPins p)) = .rev := by
  revert p
  decide

theorem delta_same (p : PinWord) : delta (transWord p p) = 0 := by
  rw [delta, transClass_same, classDelta]

theorem delta_nextPins (p : PinWord) : delta (transWord p (nextPins p)) = 1 := by
  rw [delta, transClass_nextPins, classDelta]

theorem delta_prevPins (p : PinWord) : delta (transWord p (prevPins p)) = -1 := by
  rw [delta, transClass_prevPins, classDelta]

theorem nextPins_ne (p : PinWord) : nextPins p ≠ p := by
  revert p
  decide

theorem prevPins_ne (p : PinWord) : prevPins p ≠ p := by
  revert p
  decide

/-! A spurious TICK (R106). -/

theorem ofInt_zero_count : BitVec.ofInt 32 0 = 0#32 := rfl

/-- A transition of no count to the phase the encoder has leaves it alone, if its position is in step there. -/
theorem advanceEncoder_zero {s : State} {e : Encoder} (h : ReloadInv s e) :
    advanceEncoder s.cfg 0 (s.enc.get e).phase (s.enc.get e) = s.enc.get e := by
  have hlatched : (if reloads s.cfg (s.enc.get e).phase then (s.enc.get e).steps.sshiftRight 2
      else (s.enc.get e).latched) = (s.enc.get e).latched := by
    split_ifs with hreload
    · obtain ⟨hfour, hphase⟩ := (reloads_iff _ _).mp hreload
      exact (h hfour hphase).symm
    · rfl
  rw [advanceEncoder, ofInt_zero_count, BitVec.add_zero, hlatched]

theorem setEnc_self (s : State) (e : Encoder) : s.setEnc e (s.enc.get e) = s := by
  simp [State.setEnc]

theorem setIrq_self (s : State) (e : Encoder) : s.setIrq e (s.irq.get e) = s := by
  simp [State.setIrq]

theorem exec_tick_of_phase_eq {s : State} {e : Encoder} (hreload : ReloadInv s e)
    (hphase : (s.enc.get e).phase = s.pins.get e) : exec (.tick e) s = .next (s.setIrq e false) := by
  have hdelta : delta (tickWord s e) = 0 := by rw [tickWord, pinRead, ← hphase, delta_same]
  have henc : (s.setIrq e false).setEnc e (s.enc.get e) = s.setIrq e false := setEnc_self (s.setIrq e false) e
  rw [exec_tick, hdelta, pinRead, ← hphase, serviceTick_eq, advanceEncoder_zero hreload, henc]

/-- Settles O14: a word that names one pin word twice counts nothing and moves nothing, so the flag is all that is
left to change. -/
theorem spuriousTickChangesNothing : Obligations.SpuriousTickChangesNothing := by
  refine fun s e hreload => ⟨exec_tick_of_phase_eq hreload, fun hlatch hirq => ?_⟩
  have hphase : (s.enc.get e).phase = s.pins.get e := by
    rcases hlatch with hpending | hphase
    · rw [hirq] at hpending; cases hpending
    · exact hphase
  have hflag : s.setIrq e false = s := by rw [← hirq, setIrq_self]
  rw [exec_tick_of_phase_eq hreload hphase, hflag]

/-! The TICKs of the two encoders (R107). -/

/-- The handlers of the two encoders write different registers from different registers. -/
theorem serviceTick_comm (d d' : Int) (p p' : PinWord) (s : State) :
    serviceTick .angle d' p' (serviceTick .cart d p s) = serviceTick .cart d p (serviceTick .angle d' p' s) := rfl

theorem runTurns_two_ticks (e f : Encoder) (s : State) :
    runTurns [.tick e, .tick f] s = runTurn (.tick f) (serviceTick e (delta (tickWord s e)) (pinRead s e) s) := by
  rw [runTurns, runTurn_tick, andThen_next, runTurns, runTurn_tick, andThen_next, runTurns]

theorem tickWord_serviceTick_other {e f : Encoder} (h : f ≠ e) (d : Int) (p : PinWord) (s : State) :
    tickWord (serviceTick e d p s) f = tickWord s f := by
  rw [tickWord, serviceTick_enc, PerEncoder.get_set_other _ h]
  rfl

/-- Settles O21: each TICK reads the same word before and after the other, and the two writes commute. -/
theorem ticksOfTheEncodersCommute : Obligations.TicksOfTheEncodersCommute := by
  intro s
  have hangle : tickWord (serviceTick .cart (delta (tickWord s .cart)) (pinRead s .cart) s) .angle = tickWord s .angle :=
    tickWord_serviceTick_other (by decide) _ _ s
  have hcart : tickWord (serviceTick .angle (delta (tickWord s .angle)) (pinRead s .angle) s) .cart = tickWord s .cart :=
    tickWord_serviceTick_other (by decide) _ _ s
  rw [runTurns_two_ticks, runTurns_two_ticks, runTurn_tick, runTurn_tick, hangle, hcart]
  exact congrArg Host.Outcome.next (serviceTick_comm _ _ _ _ s)

end Sys2Proof.Machine
end

section
/-! Serviced changes of the pins (30_encoding R61 `MOVE`; 40_quadrature_decoder R65, R67, R68, R69): the state that one
change with its own TICK leaves, and by induction that of any list of them. -/

namespace Sys2Proof.Machine

open Sys2Proof.Safety

/-! Turns one after the other, and the parts of the state along them. -/

theorem runTurns_append (l m : List Turn) (s : State) :
    runTurns (l ++ m) s = andThen (runTurns l s) (runTurns m) := by
  induction l generalizing s with
  | nil => rfl
  | cons turn l ih =>
    rw [List.cons_append, runTurns, runTurns]
    cases runTurn turn s with
    | next t => exact ih t
    | fault r => rfl
    | refused r => rfl

theorem runTurns_append_of_next {l m : List Turn} {s t : State} (h : runTurns l s = .next t) :
    runTurns (l ++ m) s = runTurns m t := by
  rw [runTurns_append, h, andThen_next]

theorem sameTelemetry_trans {s t u : State} (h : SameTelemetry s t) (h' : SameTelemetry t u) : SameTelemetry s u := by
  obtain ⟨hlast, htx⟩ := h
  obtain ⟨hlast', htx'⟩ := h'
  exact ⟨hlast'.trans hlast, htx'.trans htx⟩

theorem sameReceive_trans {s t u : State} (h : SameReceive s t) (h' : SameReceive t u) : SameReceive s u := by
  obtain ⟨hrx, hmotor, hled, hhistory⟩ := h
  obtain ⟨hrx', hmotor', hled', hhistory'⟩ := h'
  exact ⟨hrx'.trans hrx, hmotor'.trans hmotor, hled'.trans hled, hhistory'.trans hhistory⟩

theorem sameMain_trans {s t u : State} (h : SameMain s t) (h' : SameMain t u) : SameMain s u := by
  obtain ⟨htelemetry, hreceive, hloop⟩ := h
  obtain ⟨htelemetry', hreceive', hloop'⟩ := h'
  exact ⟨sameTelemetry_trans htelemetry htelemetry', sameReceive_trans hreceive hreceive', Eq.trans hloop' hloop⟩

theorem sameSetup_trans {s t u : State} (h : SameSetup s t) (h' : SameSetup t u) : SameSetup s u := by
  obtain ⟨hcfg, hscript, hturns⟩ := h
  obtain ⟨hcfg', hscript', hturns'⟩ := h'
  exact ⟨hcfg'.trans hcfg, hscript'.trans hscript, hturns'.trans hturns⟩

theorem sameMain_refl (s : State) : SameMain s s := ⟨⟨rfl, rfl⟩, ⟨rfl, rfl, rfl, rfl⟩, rfl⟩

theorem sameSetup_refl (s : State) : SameSetup s s := ⟨rfl, rfl, rfl⟩

/-! One change of the pins with its own TICK. -/

/-- The state that a change of the pins of encoder `e` to `q` and its TICK leave. -/
def moved (e : Encoder) (q : PinWord) (s : State) : State :=
  serviceTick e (delta (transWord (s.enc.get e).phase q)) q (envSetPins e q s)

theorem envSetPins_enc (e : Encoder) (q : PinWord) (s : State) : (envSetPins e q s).enc = s.enc := by
  obtain ⟨henc, _⟩ := envSetPins_frame e q s
  exact henc

theorem envSetPins_cfg (e : Encoder) (q : PinWord) (s : State) : (envSetPins e q s).cfg = s.cfg := by
  obtain ⟨_, _, ⟨hcfg, _⟩, _⟩ := envSetPins_frame e q s
  exact hcfg

/-- After ENV has set the pins to `q`, the TICK forms the word from the latch phase to `q`. -/
theorem tickWord_envSetPins (e : Encoder) (q : PinWord) (s : State) :
    tickWord (envSetPins e q s) e = transWord (s.enc.get e).phase q := by
  rw [tickWord, pinRead, envSetPins_enc, envSetPins_pins, PerEncoder.get_set_same]

theorem runTurns_moveTurns (e : Encoder) (q : PinWord) (s : State) :
    runTurns (moveTurns e q) s = .next (moved e q s) := by
  have hpins : pinRead (envSetPins e q s) e = q := by rw [pinRead, envSetPins_pins, PerEncoder.get_set_same]
  have htick : runTurn (.tick e) (envSetPins e q s) = .next (moved e q s) := by
    rw [runTurn_tick, tickWord_envSetPins, hpins, moved]
  calc runTurns (moveTurns e q) s
      = andThen (runTurn (.tick e) (envSetPins e q s)) (runTurns []) := rfl
    _ = .next (moved e q s) := by rw [htick, andThen_next, runTurns]

@[simp] theorem moved_pins (e : Encoder) (q : PinWord) (s : State) : (moved e q s).pins = s.pins.set e q :=
  envSetPins_pins e q s

@[simp] theorem moved_cfg (e : Encoder) (q : PinWord) (s : State) : (moved e q s).cfg = s.cfg :=
  envSetPins_cfg e q s

theorem moved_enc (e : Encoder) (q : PinWord) (s : State) :
    (moved e q s).enc =
      s.enc.set e (advanceEncoder s.cfg (delta (transWord (s.enc.get e).phase q)) q (s.enc.get e)) := by
  rw [moved, serviceTick_enc, envSetPins_enc, envSetPins_cfg]

theorem moved_enc_other {e f : Encoder} (h : f ≠ e) (q : PinWord) (s : State) :
    (moved e q s).enc.get f = s.enc.get f := by
  rw [moved_enc, PerEncoder.get_set_other _ h]

theorem moved_phase (e : Encoder) (q : PinWord) (s : State) : ((moved e q s).enc.get e).phase = q := by
  rw [moved_enc, PerEncoder.get_set_same, advanceEncoder_phase]

theorem moved_steps (e : Encoder) (q : PinWord) (s : State) :
    ((moved e q s).enc.get e).steps =
      (s.enc.get e).steps + BitVec.ofInt 32 (delta (transWord (s.enc.get e).phase q)) := by
  rw [moved_enc, PerEncoder.get_set_same, advanceEncoder_steps]

theorem moved_latched (e : Encoder) (q : PinWord) (s : State) :
    ((moved e q s).enc.get e).latched =
      if reloads s.cfg q then ((moved e q s).enc.get e).steps.sshiftRight 2 else (s.enc.get e).latched := by
  rw [moved_steps, moved_enc, PerEncoder.get_set_same, advanceEncoder_latched]

/-- With `LATCH_DIV` = 4 a move that does not end at `LATCH_PHASE` leaves the position. -/
theorem position_moved_of_ne {s : State} {e : Encoder} {q : PinWord} (hfour : s.cfg.latchDiv = .four)
    (hq : q ≠ s.cfg.latchPhase) : position (moved e q s) e = position s e := by
  have hkept : ¬ reloads s.cfg q = true := fun h => hq ((reloads_iff s.cfg q).mp h).2
  rw [position_of_four (s := moved e q s) (by simpa using hfour), position_of_four hfour, moved_latched, if_neg hkept]

/-- With `LATCH_DIV` = 4 a move that ends at `LATCH_PHASE` takes the position to the floor of a quarter of the steps. -/
theorem position_moved_of_eq {s : State} {e : Encoder} {q : PinWord} (hfour : s.cfg.latchDiv = .four)
    (hq : q = s.cfg.latchPhase) : position (moved e q s) e = ((moved e q s).enc.get e).steps.sshiftRight 2 := by
  rw [position_of_four (s := moved e q s) (by simpa using hfour), moved_latched,
    if_pos ((reloads_iff s.cfg q).mpr ⟨hfour, hq⟩)]

theorem serviceTick_frame (e : Encoder) (d : Int) (new : PinWord) (s : State) :
    SameMain s (serviceTick e d new s) ∧ SameSetup s (serviceTick e d new s) :=
  ⟨⟨⟨rfl, rfl⟩, ⟨rfl, rfl, rfl, rfl⟩, rfl⟩, ⟨rfl, rfl, rfl⟩⟩

theorem moved_frame (e : Encoder) (q : PinWord) (s : State) :
    SameMain s (moved e q s) ∧ SameSetup s (moved e q s) := by
  obtain ⟨_, hmain, hsetup, _⟩ := envSetPins_frame e q s
  obtain ⟨hmain', hsetup'⟩ := serviceTick_frame e (delta (transWord (s.enc.get e).phase q)) q (envSetPins e q s)
  exact ⟨sameMain_trans hmain hmain', sameSetup_trans hsetup hsetup'⟩

/-! A change at once reversed (R67). -/

/-- A change and its reversal count `d` and then `-d`, so the steps are back; with `LATCH_DIV` = 4 and the change off
`LATCH_PHASE` the reversal reloads the position that was there. -/
theorem moved_back {s : State} {e : Encoder} {q : PinWord} {d : Int} (hrest : (s.enc.get e).phase = s.pins.get e)
    (hne : q ≠ s.pins.get e) (hthere : delta (transWord (s.pins.get e) q) = d)
    (hback : delta (transWord q (s.pins.get e)) = -d) :
    ((moved e q s).enc.get e).steps.toInt = wrap32 ((s.enc.get e).steps.toInt + d) ∧
    ((moved e (s.pins.get e) (moved e q s)).enc.get e).steps = (s.enc.get e).steps ∧
    (s.cfg.latchDiv = .four → s.cfg.latchPhase = s.pins.get e → ReloadInv s e →
      position (moved e q s) e = position s e ∧ position (moved e (s.pins.get e) (moved e q s)) e = position s e) := by
  have hsteps : ((moved e q s).enc.get e).steps = (s.enc.get e).steps + BitVec.ofInt 32 d := by
    rw [moved_steps, hrest, hthere]
  have hcancel : ((moved e (s.pins.get e) (moved e q s)).enc.get e).steps = (s.enc.get e).steps := by
    rw [moved_steps, moved_phase, hback, hsteps, BitVec.ofInt_neg, BitVec.add_assoc, BitVec.add_right_neg,
      BitVec.add_zero]
  refine ⟨by rw [hsteps, toInt_add_ofInt], hcancel, fun hfour hphase hreload => ⟨?_, ?_⟩⟩
  · exact position_moved_of_ne hfour (by rwa [hphase])
  · rw [position_moved_of_eq (by simpa using hfour) (by simpa using hphase.symm), hcancel, position_of_four hfour,
      hreload hfour (hrest.trans hphase.symm)]

/-- Settles O18: forward then back and back then forward are both a change and its reversal, of delta 1 and -1. -/
theorem bounceIsAbsorbed : Obligations.BounceIsAbsorbed := by
  intro s e d q hrest hdirection
  have hword : q ≠ s.pins.get e ∧ delta (transWord (s.pins.get e) q) = d ∧
      delta (transWord q (s.pins.get e)) = -d := by
    rcases hdirection with ⟨rfl, rfl⟩ | ⟨rfl, rfl⟩
    · refine ⟨nextPins_ne _, delta_nextPins _, ?_⟩
      conv_lhs => rw [← prevPins_nextPins (s.pins.get e)]
      simpa using delta_prevPins (nextPins (s.pins.get e))
    · refine ⟨prevPins_ne _, delta_prevPins _, ?_⟩
      simpa using delta_nextPins (prevPins (s.pins.get e))
  obtain ⟨hne, hthere, hback⟩ := hword
  obtain ⟨hoff, hsteps, hfour⟩ := moved_back hrest hne hthere hback
  refine ⟨_, _, runTurns_moveTurns e q s, runTurns_moveTurns e _ _, hoff, hsteps, ?_, fun hone => ⟨?_, ?_⟩, hfour⟩
  · rw [moved_phase, hrest]
  · rw [position_of_one (by simpa using hone), position_of_one hone, hsteps]
  · rw [position_of_one (by simpa using hone), position_of_one hone, hoff]

/-! Lists of moves (R68). -/

/-- Every latch phase is the pin word: all changes of the pins were serviced. -/
def AtRest (s : State) : Prop := ∀ e, (s.enc.get e).phase = s.pins.get e

/-- Between two states at rest, the count of each encoder `e` moved by `n e`, wrapped. -/
structure CountedBy (n : Encoder → Int) (s t : State) : Prop where
  atRest : AtRest t
  steps : ∀ e, (t.enc.get e).steps = (s.enc.get e).steps + BitVec.ofInt 32 (n e)
  cfg : t.cfg = s.cfg

theorem CountedBy.trans {n m : Encoder → Int} {s t u : State} (h : CountedBy n s t) (h' : CountedBy m t u) :
    CountedBy (fun e => n e + m e) s u where
  atRest := h'.atRest
  steps e := by rw [h'.steps, h.steps, BitVec.ofInt_add, BitVec.add_assoc]
  cfg := h'.cfg.trans h.cfg

/-- Nothing is counted where no encoder and no pin is written. -/
theorem countedBy_zero {s t : State} (hrest : AtRest s) (h : SameEncoders s t) (hcfg : t.cfg = s.cfg) :
    CountedBy (fun _ => 0) s t := by
  obtain ⟨henc, _, hpins⟩ := h
  refine ⟨fun e => ?_, fun e => ?_, hcfg⟩
  · rw [henc, hpins, hrest]
  · rw [henc, ofInt_zero_count, BitVec.add_zero]

/-- From rest, the TICK of a move reads a word of the move's class. -/
theorem transClass_moveTarget (m : Move) (p : PinWord) : transClass (transWord p (moveTarget m p)) = moveClass m := by
  cases m with
  | forward e => exact transClass_nextPins p
  | reverse e => exact transClass_prevPins p
  | spurious e => exact transClass_same p

theorem moveClass_ne_invalid (m : Move) : moveClass m ≠ .invalid := by
  cases m <;> simp [moveClass]

/-- The state that a move leaves. -/
def afterMove (m : Move) (s : State) : State :=
  moved (moveEncoder m) (moveTarget m (s.pins.get (moveEncoder m))) s

/-- A move counts the delta of its class in its own encoder. -/
theorem afterMove_countedBy (m : Move) {s : State} (h : AtRest s) :
    CountedBy (fun e => if moveEncoder m = e then classDelta (moveClass m) else 0) s (afterMove m s) where
  atRest e := by
    by_cases he : e = moveEncoder m
    · rw [he, afterMove, moved_phase, moved_pins, PerEncoder.get_set_same]
    · rw [afterMove, moved_enc_other he, moved_pins, PerEncoder.get_set_other _ he, h]
  steps e := by
    by_cases he : e = moveEncoder m
    · rw [if_pos he.symm, he, afterMove, moved_steps, h, delta, transClass_moveTarget]
    · rw [if_neg (Ne.symm he), afterMove, moved_enc_other he, ofInt_zero_count, BitVec.add_zero]
  cfg := moved_cfg _ _ s

/-- The state that a list of moves leaves, one after the other. -/
def afterMoves (ms : List Move) (s : State) : State := ms.foldl (fun s m => afterMove m s) s

theorem runTurns_moveListTurns (ms : List Move) (s : State) :
    runTurns (moveListTurns ms s.pins) s = .next (afterMoves ms s) := by
  induction ms generalizing s with
  | nil => rfl
  | cons m ms ih =>
    rw [moveListTurns, runTurns_append_of_next (runTurns_moveTurns _ _ s), ← moved_pins]
    exact ih (afterMove m s)

theorem afterMoves_countedBy (ms : List Move) {s : State} (h : AtRest s) :
    CountedBy (fun e => netCount e ms) s (afterMoves ms s) := by
  induction ms generalizing s with
  | nil => exact countedBy_zero h ⟨rfl, rfl, rfl⟩ rfl
  | cons m ms ih =>
    have hfirst := afterMove_countedBy m h
    exact hfirst.trans (ih hfirst.atRest)

theorem afterMoves_frame (ms : List Move) (s : State) :
    SameMain s (afterMoves ms s) ∧ SameSetup s (afterMoves ms s) := by
  induction ms generalizing s with
  | nil => exact ⟨sameMain_refl s, sameSetup_refl s⟩
  | cons m ms ih =>
    obtain ⟨hmain, hsetup⟩ := moved_frame (moveEncoder m) (moveTarget m (s.pins.get (moveEncoder m))) s
    obtain ⟨hmain', hsetup'⟩ := ih (afterMove m s)
    exact ⟨sameMain_trans hmain hmain', sameSetup_trans hsetup hsetup'⟩

/-- Settles O19: by induction on the moves the net count is exact and rest is kept, and from rest every further move
reads the word of its class. -/
theorem quadratureCountIsExact : Obligations.QuadratureCountIsExact := by
  intro s hrest ms
  obtain ⟨hmain, hsetup⟩ := afterMoves_frame ms s
  have counted := afterMoves_countedBy ms hrest
  refine ⟨afterMoves ms s, runTurns_moveListTurns ms s, fun e => ⟨counted.atRest e, ?_, fun hone => ?_⟩,
    fun m => ⟨_, rfl, ?_, moveClass_ne_invalid m⟩, hmain, hsetup⟩
  · rw [counted.steps, toInt_add_ofInt]
  · exact position_of_one (by rw [counted.cfg, hone]) e
  · rw [tickWord_envSetPins, counted.atRest, transClass_moveTarget]

/-! Changes that no TICK reads (R69). -/

theorem runTurns_setPins (e : Encoder) (changes : List PinWord) (s : State) :
    ∃ u, runTurns (changes.map (.setPins e)) s = .next u ∧ u.enc = s.enc := by
  induction changes generalizing s with
  | nil => exact ⟨s, rfl, rfl⟩
  | cons p changes ih =>
    obtain ⟨u, hrun, henc⟩ := ih (envSetPins e p s)
    exact ⟨u, hrun, henc.trans (envSetPins_enc e p s)⟩

/-- Whatever the changes on the way, the TICK counts the word from the latch phase to the last pin word. -/
theorem runTurns_coalesced (e : Encoder) (changes : List PinWord) (q : PinWord) (s : State) :
    ∃ t, runTurns (changes.map (.setPins e) ++ moveTurns e q) s = .next t ∧
      (t.enc.get e).steps = (s.enc.get e).steps + BitVec.ofInt 32 (delta (transWord (s.enc.get e).phase q)) ∧
      (t.enc.get e).phase = q := by
  obtain ⟨u, hrun, henc⟩ := runTurns_setPins e changes s
  refine ⟨moved e q u, ?_, ?_, moved_phase e q u⟩
  · rw [runTurns_append_of_next hrun, runTurns_moveTurns]
  · rw [moved_steps, henc]

/-- In either direction, two places on are read as INVALID, three as the opposite direction, four as NULL. -/
theorem transClass_along {along : PinWord → PinWord} {d : Int}
    (h : along = nextPins ∧ d = 1 ∨ along = prevPins ∧ d = -1)
    (p : PinWord) :
    transClass (transWord p (along (along p))) = .invalid ∧
    transClass (transWord p (along (along (along p)))) = (if d = 1 then .rev else .fwd) ∧
    classDelta (if d = 1 then .rev else .fwd) = -d ∧
    along (along (along (along p))) = p := by
  rcases h with ⟨rfl, rfl⟩ | ⟨rfl, rfl⟩ <;> revert p <;> decide

/-- Settles O20: `runTurns_coalesced` for every list of changes, and for the four written-out lists the class of the
word from the first pin word to the last. -/
theorem coalescedChangesAreMisread : Obligations.CoalescedChangesAreMisread := by
  intro s e hrest
  have unread (changes : List PinWord) (q : PinWord) := runTurns_coalesced e changes q s
  rw [hrest] at unread
  have uncounted {q : PinWord} (changes : List PinWord) (h : delta (transWord (s.pins.get e) q) = 0) :
      ∃ t, runTurns (changes.map (.setPins e) ++ moveTurns e q) s = .next t ∧
        (t.enc.get e).steps = (s.enc.get e).steps ∧ (t.enc.get e).phase = q := by
    obtain ⟨t, hrun, hsteps, hphase⟩ := unread changes q
    exact ⟨t, hrun, by rw [hsteps, h, ofInt_zero_count, BitVec.add_zero], hphase⟩
  refine ⟨fun changes q => ?_, fun along d p1 p2 p3 p4 hdir h1 h2 h3 h4 => ?_⟩
  · obtain ⟨t, hrun, hsteps, hphase⟩ := unread changes q
    exact ⟨t, hrun, by rw [hsteps, toInt_add_ofInt]; rfl, hphase⟩
  · subst h1 h2 h3 h4
    obtain ⟨htwo, hthree, hopposite, hfour⟩ := transClass_along hdir (s.pins.get e)
    rw [hfour, hrest]
    refine ⟨⟨htwo, uncounted [_] ?_⟩, ⟨hthree, ?_⟩, ⟨transClass_same _, uncounted [_, _, _] (delta_same _)⟩,
      uncounted [_] (delta_same _)⟩
    · rw [delta, htwo, classDelta]
    · obtain ⟨t, hrun, hsteps, hphase⟩ :=
        unread [along (s.pins.get e), along (along (s.pins.get e))] (along (along (along (s.pins.get e))))
      refine ⟨t, hrun, ?_, hphase⟩
      rw [hsteps, toInt_add_ofInt, delta, hthree, hopposite, Int.sub_eq_add_neg]

end Sys2Proof.Machine
end

section
/-! The full cycle with `LATCH_DIV` = 4 (40_quadrature_decoder R65): forward transitions as a list of moves, whose
position is reloaded only when the pins come round to `LATCH_PHASE`. -/

namespace Sys2Proof.Machine

open Sys2Proof.Safety

/-- The state after `k` forward transitions of encoder `e`, each serviced. -/
def afterForward (e : Encoder) (k : Nat) (s : State) : State := afterMoves (List.replicate k (.forward e)) s

theorem fwdTurns_eq_moveListTurns (e : Encoder) (k : Nat) (p : PerEncoder PinWord) :
    fwdTurns e k (p.get e) = moveListTurns (List.replicate k (.forward e)) p := by
  induction k generalizing p with
  | zero => rfl
  | succ k ih =>
    have hrest := ih (p.set e (nextPins (p.get e)))
    rw [PerEncoder.get_set_same] at hrest
    rw [fwdTurns, hrest]
    rfl

theorem runTurns_fwdTurns (e : Encoder) (k : Nat) (s : State) :
    runTurns (fwdTurns e k (s.pins.get e)) s = .next (afterForward e k s) := by
  rw [fwdTurns_eq_moveListTurns, runTurns_moveListTurns, afterForward]

theorem afterForward_succ (e : Encoder) (k : Nat) (s : State) :
    afterForward e (k + 1) s = moved e (nextPins ((afterForward e k s).pins.get e)) (afterForward e k s) := by
  rw [afterForward, afterMoves, List.replicate_succ', List.foldl_append]
  rfl

theorem afterForward_cfg (e : Encoder) (k : Nat) (s : State) : (afterForward e k s).cfg = s.cfg := by
  obtain ⟨_, hcfg, _⟩ := afterMoves_frame (List.replicate k (.forward e)) s
  exact hcfg

theorem afterForward_pins (e : Encoder) (k : Nat) (s : State) :
    (afterForward e k s).pins.get e = nextPins^[k] (s.pins.get e) := by
  induction k with
  | zero => rfl
  | succ k ih => rw [afterForward_succ, moved_pins, PerEncoder.get_set_same, ih, Function.iterate_succ_apply']

/-- The cycle comes round after four places and not before. -/
theorem nextPins_iterate_eq_iff {k : Nat} (hpos : 0 < k) (hle : k ≤ 4) (p : PinWord) :
    nextPins^[k] p = p ↔ k = 4 := by
  interval_cases k <;> revert p <;> decide

section
variable {s : State} {e : Encoder}

theorem afterForward_phase (hrest : (s.enc.get e).phase = s.pins.get e) (k : Nat) :
    ((afterForward e k s).enc.get e).phase = nextPins^[k] (s.pins.get e) := by
  cases k with
  | zero => exact hrest
  | succ k => rw [afterForward_succ, moved_phase, afterForward_pins, Function.iterate_succ_apply']

theorem afterForward_steps (hrest : (s.enc.get e).phase = s.pins.get e) (k : Nat) :
    ((afterForward e k s).enc.get e).steps = (s.enc.get e).steps + BitVec.ofInt 32 k := by
  induction k with
  | zero => exact (BitVec.add_zero _).symm
  | succ k ih =>
    rw [afterForward_succ, moved_steps, afterForward_phase hrest, afterForward_pins, delta_nextPins, ih,
      BitVec.add_assoc, ← BitVec.ofInt_add, Nat.cast_succ]

theorem wrap32_of_range {v : Int} (hlo : -2 ^ 31 ≤ v) (hhi : v < 2 ^ 31) : wrap32 v = v :=
  Int.bmod_eq_of_le (by omega) (by omega)

theorem afterForward_steps_toInt (hrest : (s.enc.get e).phase = s.pins.get e) {k : Nat}
    (hrange : (s.enc.get e).steps.toInt + k < 2 ^ 31) :
    ((afterForward e k s).enc.get e).steps.toInt = (s.enc.get e).steps.toInt + k := by
  have hlo : -2 ^ 31 ≤ (s.enc.get e).steps.toInt := BitVec.le_toInt _
  rw [afterForward_steps hrest, toInt_add_ofInt, wrap32_of_range (by omega) hrange]

/-- Before the cycle comes round the position stands still. -/
theorem position_afterForward_of_lt (hfour : s.cfg.latchDiv = .four) (hpins : s.pins.get e = s.cfg.latchPhase)
    {k : Nat} (hk : k < 4) : position (afterForward e k s) e = position s e := by
  induction k with
  | zero => rfl
  | succ k ih =>
    have hoff : nextPins ((afterForward e k s).pins.get e) ≠ s.cfg.latchPhase := by
      rw [afterForward_pins, ← Function.iterate_succ_apply' nextPins, ← hpins]
      exact mt (nextPins_iterate_eq_iff k.succ_pos (by omega) _).mp (by omega)
    rw [afterForward_succ, position_moved_of_ne (by rwa [afterForward_cfg]) (by rwa [afterForward_cfg]), ih (by omega)]

/-- As it comes round the position is the floor of a quarter of the steps. -/
theorem position_afterForward_four (hfour : s.cfg.latchDiv = .four) (hpins : s.pins.get e = s.cfg.latchPhase) :
    (position (afterForward e 4 s) e).toInt = ((afterForward e 4 s).enc.get e).steps.toInt / 4 := by
  have hback : nextPins ((afterForward e 3 s).pins.get e) = s.cfg.latchPhase := by
    rw [afterForward_pins, ← Function.iterate_succ_apply' nextPins, ← hpins]
    exact (nextPins_iterate_eq_iff (by omega) le_rfl _).mpr rfl
  rw [afterForward_succ, position_moved_of_eq (by rwa [afterForward_cfg]) (by rwa [afterForward_cfg]),
    toInt_sshiftRight_two]

end

/-- Settles O17: the steps grow with each transition, the position only by the reload that the fourth brings. -/
theorem fullCycleCountsOneWithDivFour : Obligations.FullCycleCountsOneWithDivFour := by
  intro s e hfour hphase hpins hreload hrange k hk
  have hrest : (s.enc.get e).phase = s.pins.get e := hphase.trans hpins.symm
  have hsteps := afterForward_steps_toInt hrest (k := k) (by omega)
  refine ⟨afterForward e k s, runTurns_fwdTurns e k s, hsteps, ?_⟩
  by_cases hround : k = 4
  · subst hround
    have hposition : (position s e).toInt = (s.enc.get e).steps.toInt / 4 := by
      rw [position_of_four hfour, hreload hfour hphase, toInt_sshiftRight_two]
    rw [position_afterForward_four hfour hpins, hsteps, hposition, if_pos rfl]
    omega
  · rw [position_afterForward_of_lt hfour hpins (by omega), if_neg hround, add_zero]

end Sys2Proof.Machine
end

section
/-! Sampling and reporting (41_angle_normalizer R73, R74, R77; 42_telemetry_encoder R78, R79, R83; 30_encoding R55):
NORMALIZE as a residue, the source's formula for it, the gate between two calls, and the host's reading of a frame. -/

namespace Sys2Proof.Machine

open Sys2Proof.Safety

/-! NORMALIZE and SNAPSHOT (R73, R74, R77, R78). -/

theorem normalizeAngle_eq_fmod (c : Int) : (normalizeAngle c : Int) = c.fmod 1200 := by
  rw [normalizeAngle_eq_emod, Int.fmod_eq_emod_of_nonneg _ (by decide)]

/-- An instruction that only returns a value leaves the block as it is. -/
theorem setRet_frame (s : State) (v : OpValue) :
    SameEncoders s (s.setRet v) ∧ SameMain s (s.setRet v) ∧ SameSetup s (s.setRet v) :=
  ⟨⟨rfl, rfl, rfl⟩, ⟨⟨rfl, rfl⟩, ⟨rfl, rfl, rfl, rfl⟩, rfl⟩, ⟨rfl, rfl, rfl⟩⟩

/-- Settles O23: the value is the residue by `normalizeAngle_eq_fmod`, and only `ret` is written. -/
theorem normalizeReturnsFlooredModulo : Obligations.NormalizeReturnsFlooredModulo :=
  fun s => ⟨_, _, rfl, rfl, normalizeAngle_lt _, normalizeAngle_eq_fmod _, setRet_frame s _⟩

/-- Settles O27: the snapshot is of the two loop registers, and only `ret` is written. -/
theorem snapshotTakesBothSamples : Obligations.SnapshotTakesBothSamples :=
  fun s => ⟨_, _, rfl, rfl, rfl, normalizeAngle_eq_fmod _, setRet_frame s _⟩

/-- Settles O24, as facts about the residue modulo 1200. -/
theorem normalizeWrapsContinuously : Obligations.NormalizeWrapsContinuously := by
  intro c
  have here := normalizeAngle_eq_emod c
  have next := normalizeAngle_eq_emod (c + 1)
  have around := normalizeAngle_eq_emod (c + 1200)
  refine ⟨normalizeAngle_lt c, ?_, ?_, ?_⟩
  · rw [Int.add_emod_right] at around
    omega
  · rw [here]
    exact Int.dvd_self_sub_emod
  · omega

/-- Settles O25: the truncating remainder plus 1200 is congruent to the count and not negative, and there the second
remainder is the floored one. -/
theorem truncatedFormulaIsNormalize : Obligations.TruncatedFormulaIsNormalize := by
  intro c
  have hsplit : c.tmod 1200 + 1200 * c.tdiv 1200 = c := Int.tmod_add_mul_tdiv c 1200
  have hlow : -1200 < c.tmod 1200 := Int.lt_tmod_of_pos c (by decide)
  rw [Int.tmod_eq_emod_of_nonneg (by omega), normalizeAngle_eq_emod]
  omega

/-! The gate between two calls (R79, R83). -/

/-- After MAYBE_SEND the gate holds the snapshot, sent now or before. -/
theorem maybeSend_lastSent (u : Snapshot) (s : State) : (maybeSend u s).lastSent = some u := by
  rcases maybeSend_cases u s with ⟨hsent, h⟩ | ⟨_, h⟩
  · rw [h, hsent]
  · rw [h, State.setLastSent_lastSent]

/-- What MAYBE_SEND appends to the outbound log. -/
theorem maybeSend_tx (u : Snapshot) (s : State) :
    (maybeSend u s).tx = s.tx ++ if s.lastSent = some u then [] else txFrame u := by
  rcases maybeSend_cases u s with ⟨hsent, h⟩ | ⟨hchanged, h⟩
  · rw [h, if_pos hsent, List.append_nil]
  · rw [h, if_neg hchanged, State.setLastSent_tx, State.setTx_tx]

/-- Settles O29: the first call leaves its snapshot in the gate, so the second's frame depends on the comparison with
it. -/
theorem changeGateSendsOnDifference : Obligations.ChangeGateSendsOnDifference := by
  intro s t c a h
  rw [exec_maybeSend] at h
  cases h
  have second := maybeSend_tx { cart := c, angle := normalizeAngle a.toInt }
    (((maybeSend (snapshotOf s) s).setLoopCart c).setLoopAngleRaw a)
  rw [State.setLoopAngleRaw_lastSent, State.setLoopCart_lastSent, maybeSend_lastSent] at second
  refine ⟨fun hnone => ?_, _, exec_maybeSend _, ?_, ?_⟩
  · rw [maybeSend_tx, if_neg (by simp [hnone])]
  · rintro ⟨rfl, hangle⟩
    rw [if_pos (by rw [hangle, snapshotOf]), List.append_nil] at second
    exact second
  · intro hdiffers
    have hne : ¬ some (snapshotOf s) = some { cart := c, angle := normalizeAngle a.toInt } := by
      rw [snapshotOf, Option.some_inj, Snapshot.mk.injEq]
      rcases hdiffers with hcart | hangle
      · exact fun heq => hcart heq.1.symm
      · exact fun heq => hangle heq.2.symm
    rw [if_neg hne] at second
    exact ⟨second, (congrArg List.length second).trans List.length_append⟩

/-! The host's reading (R55). -/

/-- Settles O30: the two bytes of a field give the field back, which is the angle, and the cart modulo 65536. -/
theorem hostReadsFrameBack : Obligations.HostReadsFrameBack := by
  intro u hangle
  have hcart := fieldA_toNat u
  have hlt := (fieldA u).isLt
  refine ⟨_, _, _, _, rfl, ?_, fun hlo hhi => ?_, fun hlo hhi => ?_⟩
  · rw [hostFieldB, halfOf_byteLo_byteHi, fieldB_toNat hangle]
  · rw [hostFieldA, if_pos rfl, halfOf_byteLo_byteHi, BitVec.toInt_eq_toNat_cond]
    split_ifs <;> omega
  · rw [hostFieldA, if_neg (by decide), halfOf_byteLo_byteHi]
    omega

end Sys2Proof.Machine
end

section
/-! The Command Decoder and the two frames as instructions (43_command_decoder R86, R88, R89, R92; 70_reset_and_hazards
R125; 10_state R28): the reads of a frame, the outcome that CMD_POLL selects, and how garbage is drained. -/

namespace Sys2Proof.Machine

open Sys2Proof.Safety

/-! Three reads of the input buffer (R12). -/

/-- Three `RxRead`s, whose bytes and states go to `f`: the shape of CMD_DECODE and of RXF. -/
def readThree (f : Byte × State → Byte × State → Byte × State → Host.Outcome State Fault Refusal) (s : State) :
    Host.Outcome State Fault Refusal :=
  andThen (rxRead s) fun r0 => andThen (rxRead r0.2) fun r1 => andThen (rxRead r1.2) fun r2 => f r0 r1 r2

theorem exec_cmdDecode (s : State) :
    exec .cmdDecode s = readThree (fun _ r1 r2 => .next (applySpeed (speedOf r1.1 r2.1) r2.2)) s := rfl

theorem exec_rxf (lo hi : Byte) (s : State) :
    exec (.rxf lo hi) s = readThree (fun _ _ r2 => .next (applySpeed (speedOf lo hi) r2.2)) s := rfl

theorem readThree_of_short (f : Byte × State → Byte × State → Byte × State → Host.Outcome State Fault Refusal)
    {s : State} (h : s.rx.length < 3) : readThree f s = .fault .rxUnderflow := by
  rcases hrx : s.rx with _ | ⟨b0, _ | ⟨b1, _ | ⟨b2, rest⟩⟩⟩
  · simp [readThree, rxRead, hrx]
  · simp [readThree, rxRead, hrx]
  · simp [readThree, rxRead, hrx]
  · simp only [hrx, List.length_cons] at h
    omega

theorem readThree_of_cons (f : Byte × State → Byte × State → Byte × State → Host.Outcome State Fault Refusal)
    {s : State} {b0 b1 b2 : Byte} {rest : List Byte} (h : s.rx = b0 :: b1 :: b2 :: rest) :
    readThree f s = f (b0, s.setRx (b1 :: b2 :: rest)) (b1, s.setRx (b2 :: rest)) (b2, s.setRx rest) := by
  simp [readThree, rxRead, h]

theorem exec_cmdDecode_of_cons {s : State} {b0 b1 b2 : Byte} {rest : List Byte} (h : s.rx = b0 :: b1 :: b2 :: rest) :
    exec .cmdDecode s = .next (applySpeed (speedOf b1 b2) (s.setRx rest)) := by
  rw [exec_cmdDecode, readThree_of_cons _ h]

theorem exec_rxf_of_cons (lo hi : Byte) {s : State} {b0 b1 b2 : Byte} {rest : List Byte}
    (h : s.rx = b0 :: b1 :: b2 :: rest) :
    exec (.rxf lo hi) s = .next (applySpeed (speedOf lo hi) (s.setRx rest)) := by
  rw [exec_rxf, readThree_of_cons _ h]

theorem exec_cmdDiscard_of_cons (b0 : Byte) {s : State} {b : Byte} {rest : List Byte} (h : s.rx = b :: rest) :
    exec (.cmdDiscard b0) s = .next (s.setRx rest) := by
  have hexec : exec (.cmdDiscard b0) s = andThen (rxRead s) fun r => .next (dropByte b0 r.2) := rfl
  rw [hexec, rxRead_cons h, andThen_next, dropByte]

theorem exec_cmdDiscard_of_nil (b0 : Byte) {s : State} (h : s.rx = []) :
    exec (.cmdDiscard b0) s = .fault .rxUnderflow := by
  have hexec : exec (.cmdDiscard b0) s = andThen (rxRead s) fun r => .next (dropByte b0 r.2) := rfl
  rw [hexec, rxRead_nil h, andThen_fault]

/-- Settles O38: three reads meet the end of a shorter buffer, one read that of an empty buffer only. -/
theorem readOfEmptyBufferFaults : Obligations.ReadOfEmptyBufferFaults := by
  refine fun s b0 lo hi hshort =>
    ⟨readThree_of_short _ hshort, readThree_of_short _ hshort, fun hfault => ?_, exec_cmdDiscard_of_nil b0⟩
  cases hrx : s.rx with
  | nil => rfl
  | cons b rest =>
    rw [exec_cmdDiscard_of_cons b0 hrx] at hfault
    cases hfault

/-! What CMD_POLL makes of the buffer (R86, R88, R89, R125). -/

/-- A consumed frame changes the receive half of the state and nothing else. -/
theorem applySpeed_setRx_frame (v : Int) (l : List Byte) (s : State) :
    SameEncoders s (applySpeed v (s.setRx l)) ∧ SameTelemetry s (applySpeed v (s.setRx l)) ∧
      SameLoop s (applySpeed v (s.setRx l)) ∧ SameSetup s (applySpeed v (s.setRx l)) ∧
      (applySpeed v (s.setRx l)).ret = s.ret :=
  ⟨⟨rfl, rfl, rfl⟩, ⟨rfl, rfl⟩, rfl, ⟨rfl, rfl, rfl⟩, rfl⟩

/-- Settles O35: CMD_POLL applies the speed of the frame at the head, with its value by `speedOf_eq`. -/
theorem pollDecodesOneFrame : Obligations.PollDecodesOneFrame := by
  rintro s b1 b2 rest n hrx rfl
  have hvalue := speedOf_eq b1 b2
  have hhistory := applySpeed_ledHistory (speedOf b1 b2) (s.setRx rest)
  simp only [eq_comm (a := (s.setRx rest).led)] at hhistory
  exact ⟨_, speedOf b1 b2, pollCommand_of_frame hrx, by exact_mod_cast hvalue, rfl, rfl, ledLevel_eq_true_iff _,
    hhistory, applySpeed_setRx_frame _ rest s⟩

/-- Settles O31: TXF is one write; RXF and CMD_POLL apply the same speed where the frame stands at the head. -/
theorem framesRunAsInstructions : Obligations.FramesRunAsInstructions := by
  refine ⟨fun s a aHi b bHi => ?_, fun s lo hi rest hrx => ?_⟩
  · exact ⟨_, rfl, rfl, rfl, ⟨rfl, rfl, rfl⟩, ⟨rfl, rfl, rfl, rfl⟩, rfl, ⟨rfl, rfl, rfl⟩, rfl⟩
  · exact ⟨_, exec_rxf_of_cons lo hi hrx, pollCommand_of_frame hrx, rfl, rfl, rfl, applySpeed_setRx_frame _ rest s⟩

/-- Settles O36: each of the three outcomes, executed by itself, is what CMD_POLL did where it selected it. -/
theorem pollIsItsSelectedOutcome : Obligations.PollIsItsSelectedOutcome := by
  intro s
  rcases pollCommand_cases s with
    ⟨hshort, hpoll⟩ | ⟨c0, c1, c2, tail, hrx, hsync, hpoll⟩ | ⟨c1, c2, tail, hrx, hpoll⟩
  · exact ⟨_, hpoll, fun _ => rfl, fun _ _ _ hlong => by omega, fun _ _ hlong => by omega⟩
  · have hlong : 3 ≤ s.rx.length := by simp [hrx]
    refine ⟨_, hpoll, fun hshort => by omega, fun b0 rest _ _ _ => exec_cmdDiscard_of_cons b0 hrx, ?_⟩
    intro rest hhead
    rw [hrx] at hhead
    cases hhead
    exact absurd rfl hsync
  · have hlong : 3 ≤ s.rx.length := by simp [hrx]
    refine ⟨_, hpoll, fun hshort => by omega, ?_, fun _ _ _ => exec_cmdDecode_of_cons hrx⟩
    intro b0 rest hhead _ hsync
    rw [hrx] at hhead
    cases hhead
    exact absurd rfl hsync

/-- Settles O40: the three outcomes take no byte, one or three. -/
theorem pollRemovesAtMostThreeBytes : Obligations.PollRemovesAtMostThreeBytes := by
  intro s
  rcases pollCommand_cases s with
    ⟨_, hpoll⟩ | ⟨c0, c1, c2, tail, hrx, _, hpoll⟩ | ⟨c1, c2, tail, hrx, hpoll⟩
  · exact ⟨_, 0, hpoll, rfl, by omega, by omega, fun _ _ _ _ => by omega⟩
  · exact ⟨_, 1, hpoll, by simp [hrx], by omega, by simp [hrx], fun _ _ _ _ => le_rfl⟩
  · refine ⟨_, 3, hpoll, by simp [hrx], le_rfl, by simp [hrx], ?_⟩
    intro b rest hhead hsync
    rw [hrx] at hhead
    cases hhead
    exact absurd rfl hsync

/-! Garbage before a frame (R92). -/

theorem execTimes_succ_of_next {i : Instr} {s t : State} (h : exec i s = .next t) (n : Nat) :
    execTimes i (n + 1) s = execTimes i n t := by
  rw [execTimes, h, andThen_next]

theorem pollCommand_drops_head {s : State} {b : Byte} {tail : List Byte} (h : s.rx = b :: tail)
    (hb : b ≠ Config.rxSync) (hlong : 2 ≤ tail.length) : pollCommand s = .next (s.setRx tail) := by
  obtain ⟨b1, b2, rest, rfl⟩ : ∃ b1 b2 rest, tail = b1 :: b2 :: rest := by
    match tail, hlong with
    | b1 :: b2 :: rest, _ => exact ⟨b1, b2, rest, rfl⟩
  exact pollCommand_of_garbage h hb

/-- Each CMD_POLL drops one byte of garbage, as long as a frame stands behind it. -/
theorem execTimes_cmdPoll_drains {garbage frame : List Byte} {s : State}
    (hgarbage : ∀ b ∈ garbage, b ≠ Config.rxSync) (hframe : 2 ≤ frame.length) (h : s.rx = garbage ++ frame) :
    execTimes .cmdPoll garbage.length s = .next (s.setRx frame) := by
  induction garbage generalizing s with
  | nil =>
    have hrx : s.rx = frame := h
    rw [← hrx]
    rfl
  | cons b garbage ih =>
    obtain ⟨hb, hrest⟩ := List.forall_mem_cons.mp hgarbage
    have hdrop : exec .cmdPoll s = .next (s.setRx (garbage ++ frame)) :=
      pollCommand_drops_head h hb (by rw [List.length_append]; omega)
    rw [List.length_cons, execTimes_succ_of_next hdrop, ih hrest rfl, setRx_setRx]

/-- Settles O39: the garbage by `execTimes_cmdPoll_drains`, and then the frame at the head. -/
theorem garbageIsDrainedThenFrameDecoded : Obligations.GarbageIsDrainedThenFrameDecoded := by
  intro garbage s b1 b2 rest hgarbage hrx
  have hframe : (s.setRx (0x55#8 :: b1 :: b2 :: rest)).rx = Config.rxSync :: b1 :: b2 :: rest := rfl
  exact ⟨_, _, execTimes_cmdPoll_drains hgarbage (by simp) hrx, pollCommand_of_frame hframe, rfl, rfl, rfl, rfl, rfl⟩

/-! HOST_RX (R28). -/

theorem hostDeliver_frame (b : Byte) (s : State) :
    SameTelemetry s (hostDeliver b s) ∧ SameLoop s (hostDeliver b s) ∧ SameSetup s (hostDeliver b s) ∧
      (hostDeliver b s).ret = s.ret := by
  rcases hostDeliver_cases b s with ⟨_, h⟩ | ⟨_, h⟩ <;>
    · rw [h]
      exact ⟨⟨rfl, rfl⟩, rfl, ⟨rfl, rfl, rfl⟩, rfl⟩

/-- Settles O57: the two cases of HOST_RX, and its frame. -/
theorem deliveredByteIsQueuedOrLost : Obligations.DeliveredByteIsQueuedOrLost := by
  intro s b
  obtain ⟨hled, hhistory, hmotor⟩ := hostDeliver_sameOutputs b s
  refine ⟨_, rfl, fun hroom => ?_, fun hfull => ?_, hmotor, hled, hhistory, hostDeliver_sameEncoders b s,
    hostDeliver_frame b s⟩
  · rcases hostDeliver_cases b s with ⟨_, h⟩ | ⟨hfull, _⟩
    · rw [h, State.setRx_rx]
    · omega
  · rcases hostDeliver_cases b s with ⟨hroom, _⟩ | ⟨_, h⟩
    · omega
    · exact h

end Sys2Proof.Machine
end

section
/-! The frame of every instruction and of every turn (10_state R20, R30; 60_exceptions R101, R112): who writes the
encoders, that nothing writes the parameters and the script, that every turn completes, and that the logs only grow. -/

namespace Sys2Proof.Machine

open Sys2Proof.Safety

/-! Instructions by context (R112, R113). -/

theorem decodeTrans_of_encode {i : Instr} {e : Encoder} {w : TransWord} (h : encode i = some (.trans e w)) :
    decodeTrans e w = i := by
  cases i <;> cases h <;> rfl

theorem encode_of_transFormat {i : Instr} (h : instrFormat i = .trans) : ∃ e w, encode i = some (.trans e w) := by
  cases i <;> cases h <;> exact ⟨_, _, rfl⟩

theorem exec_rxf_eq_next {lo hi : Byte} {s t : State} (h : exec (.rxf lo hi) s = .next t) :
    ∃ l, t = applySpeed (speedOf lo hi) (s.setRx l) := by
  rcases hrx : s.rx with _ | ⟨b0, _ | ⟨b1, _ | ⟨b2, rest⟩⟩⟩
  · rw [exec_rxf, readThree_of_short _ (by simp [hrx])] at h; cases h
  · rw [exec_rxf, readThree_of_short _ (by simp [hrx])] at h; cases h
  · rw [exec_rxf, readThree_of_short _ (by simp [hrx])] at h; cases h
  · rw [exec_rxf_of_cons lo hi hrx] at h; cases h; exact ⟨rest, rfl⟩

theorem execLoopStep_sameSetup {s t : State} (h : execLoopStep s = .next t) : SameSetup s t := by
  cases hphase : s.loop.phase with
  | l0 => rw [execLoopStep_l0 hphase] at h; cases h; exact ⟨rfl, rfl, rfl⟩
  | l1 => rw [execLoopStep_l1 hphase] at h; cases h; exact ⟨rfl, rfl, rfl⟩
  | l2 =>
    rw [execLoopStep_l2 hphase] at h
    cases h
    obtain ⟨_, _, hsetup, _⟩ := maybeSend_frame (snapshotOf s) s
    exact hsetup
  | l3 =>
    rw [execLoopStep_l3 hphase] at h
    obtain ⟨u, hpoll, ht⟩ := andThen_eq_next h
    cases ht
    obtain ⟨_, hsetup, _⟩ := pollCommand_frame hpoll
    exact hsetup

/-- The instructions of MAIN write no encoder, flag or pin, and none writes the parameters or the script. -/
theorem exec_mainContext {i : Instr} {s t : State} (h : exec i s = .next t) (htick : ∀ e, i ≠ .tick e)
    (htrans : instrFormat i ≠ .trans) : SameEncoders s t ∧ SameSetup s t := by
  cases i with
  | maybeSend =>
    cases h
    obtain ⟨_, _, hsetup, _⟩ := maybeSend_frame (snapshotOf s) s
    exact ⟨maybeSend_sameEncoders _ s, hsetup⟩
  | cmdPoll =>
    obtain ⟨_, hsetup, _⟩ := pollCommand_frame h
    exact ⟨pollCommand_sameEncoders h, hsetup⟩
  | cmdDiscard b0 =>
    obtain ⟨_, rest, _, rfl⟩ := exec_cmdDiscard_eq_next h
    exact ⟨⟨rfl, rfl, rfl⟩, ⟨rfl, rfl, rfl⟩⟩
  | cmdDecode =>
    obtain ⟨_, b1, b2, rest, _, rfl⟩ := exec_cmdDecode_eq_next h
    exact ⟨⟨rfl, rfl, rfl⟩, ⟨rfl, rfl, rfl⟩⟩
  | rxf lo hi =>
    obtain ⟨l, rfl⟩ := exec_rxf_eq_next h
    exact ⟨⟨rfl, rfl, rfl⟩, ⟨rfl, rfl, rfl⟩⟩
  | loopStep => exact ⟨execLoopStep_sameEncoders h, execLoopStep_sameSetup h⟩
  | getPosition e => cases h; exact ⟨⟨rfl, rfl, rfl⟩, ⟨rfl, rfl, rfl⟩⟩
  | normalize => cases h; exact ⟨⟨rfl, rfl, rfl⟩, ⟨rfl, rfl, rfl⟩⟩
  | snapshot => cases h; exact ⟨⟨rfl, rfl, rfl⟩, ⟨rfl, rfl, rfl⟩⟩
  | cmdWait => cases h; exact ⟨⟨rfl, rfl, rfl⟩, ⟨rfl, rfl, rfl⟩⟩
  | txf a aHi b bHi => cases h; exact ⟨⟨rfl, rfl, rfl⟩, ⟨rfl, rfl, rfl⟩⟩
  | tick e => exact absurd rfl (htick e)
  | _ => exact absurd rfl htrans

/-- The instructions of an interrupt handler are serviced TICKs of its encoder. -/
theorem exec_handlerContext {i : Instr} {e : Encoder} (h : i = .tick e ∨ ∃ w, encode i = some (.trans e w))
    (s : State) : ∃ d new, exec i s = .next (serviceTick e d new s) := by
  rcases h with rfl | ⟨w, hw⟩
  · exact ⟨_, _, exec_tick e s⟩
  · rw [← decodeTrans_of_encode hw]
    exact ⟨_, _, exec_decodeTrans e w s⟩

theorem exec_sameSetup {i : Instr} {s t : State} (h : exec i s = .next t) : SameSetup s t := by
  by_cases hhandler : ∃ e, i = .tick e ∨ ∃ w, encode i = some (.trans e w)
  · obtain ⟨e, he⟩ := hhandler
    obtain ⟨d, new, hexec⟩ := exec_handlerContext he s
    rw [hexec] at h
    cases h
    exact ⟨rfl, rfl, rfl⟩
  · have htick (e : Encoder) : i ≠ .tick e := fun hi => hhandler ⟨e, .inl hi⟩
    have htrans : instrFormat i ≠ .trans := fun hi => by
      obtain ⟨e, w, hw⟩ := encode_of_transFormat hi
      exact hhandler ⟨e, .inr ⟨w, hw⟩⟩
    obtain ⟨_, hsetup⟩ := exec_mainContext h htick htrans
    exact hsetup

/-- Settles O56: the instructions of a handler by the frame of a serviced TICK, the others by `exec_mainContext`. -/
theorem contextsWriteTheirOwnState : Obligations.ContextsWriteTheirOwnState := by
  refine fun i s t h => ⟨fun e he => ?_, fun hother => ?_⟩
  · obtain ⟨d, new, hexec⟩ := exec_handlerContext he s
    rw [hexec] at h
    cases h
    have left := serviceTick_tickLeaves e d new s
    exact ⟨left.others, left.pins, left.main, left.setup, left.ret⟩
  · have htrans : instrFormat i ≠ .trans := fun hi => by
      obtain ⟨e, w, hw⟩ := encode_of_transFormat hi
      exact (hother e).2 w hw
    obtain ⟨hencoders, _⟩ := exec_mainContext h (fun e => (hother e).1) htrans
    exact hencoders

/-! Turns. -/

theorem runTurn_sameSetup {turn : Turn} {s t : State} (h : runTurn turn s = .next t) : SameSetup s t := by
  cases turn with
  | main => exact exec_sameSetup (i := mainOperation) h
  | tick e => exact exec_sameSetup (i := decodeTrans e (tickWord s e)) h
  | deliver b =>
    cases h
    obtain ⟨_, _, hsetup, _⟩ := hostDeliver_frame b s
    exact hsetup
  | setPins e p =>
    cases h
    obtain ⟨_, _, hsetup, _⟩ := envSetPins_frame e p s
    exact hsetup
  | powerOn p q => cases h; exact ⟨rfl, rfl, rfl⟩

/-- The turn given out leaves all but the model's own script and counter. -/
theorem nextTurn_state (s : State) :
    ∃ script turns, (nextTurn s).2 = (s.setScript script).setTurns turns := by
  cases hscript : s.script with
  | nil => exact ⟨s.script, _, by rw [nextTurn_nil hscript]; rfl⟩
  | cons turn rest => exact ⟨rest, s.turns, by rw [nextTurn_cons hscript]; rfl⟩

/-- Settles O55: no turn writes the setup, and neither does giving the turn out write a parameter. -/
theorem parametersAreFixed : Obligations.ParametersAreFixed := by
  refine ⟨fun s t h => ?_, fun i s t h => ?_⟩
  · obtain ⟨script, turns, hnext⟩ := nextTurn_state s
    obtain ⟨hcfg, _⟩ := runTurn_sameSetup h
    rw [hcfg, hnext, State.setTurns_cfg, State.setScript_cfg]
  · obtain ⟨hcfg, _⟩ := exec_sameSetup h
    exact hcfg

/-- Every turn completes in every state (R101). -/
theorem runTurn_next (turn : Turn) (s : State) : ∃ t, runTurn turn s = .next t := by
  cases turn with
  | main =>
    cases hphase : s.loop.phase with
    | l0 => exact ⟨_, exec_loopStep_l0 hphase⟩
    | l1 => exact ⟨_, exec_loopStep_l1 hphase⟩
    | l2 => exact ⟨_, exec_loopStep_l2 hphase⟩
    | l3 =>
      obtain ⟨t, hpoll⟩ := pollCommand_next s
      exact ⟨_, exec_loopStep_l3 hphase hpoll⟩
  | tick e => exact ⟨_, runTurn_tick e s⟩
  | deliver b => exact ⟨_, rfl⟩
  | setPins e p => exact ⟨_, rfl⟩
  | powerOn p q => exact ⟨_, rfl⟩

/-- Settles O48: a step is the turn given out, and every turn completes. -/
theorem everyStepCompletes : Obligations.EveryStepCompletes := fun s => runTurn_next _ (nextTurn s).2

/-! Who writes the encoders (R20, R71). -/

theorem runTurn_enc_of_ne_tick {turn : Turn} {s t : State} {e : Encoder} (h : runTurn turn s = .next t)
    (htick : turn ≠ .tick e) (hpower : ∀ p q, turn ≠ .powerOn p q) : t.enc.get e = s.enc.get e := by
  cases turn with
  | main =>
    obtain ⟨henc, _⟩ := runTurn_main_sameEncoders h
    rw [henc]
  | tick f =>
    rw [runTurn_tick] at h
    cases h
    rw [serviceTick_enc, PerEncoder.get_set_other _ (fun he => htick (by rw [he]))]
  | deliver b =>
    cases h
    obtain ⟨henc, _⟩ := hostDeliver_sameEncoders b s
    rw [henc]
  | setPins f p => cases h; rw [envSetPins_enc]
  | powerOn p q => exact absurd rfl (hpower p q)

theorem delta_cases (w : TransWord) : delta w = -1 ∨ delta w = 0 ∨ delta w = 1 := by
  rw [delta]
  cases transClass w <;> simp [classDelta]

/-- Settles O15: a TICK of the encoder counts its word, and no other turn writes the encoder. -/
theorem stepsMoveByAtMostOne : Obligations.StepsMoveByAtMostOne := by
  refine fun s t turn e hpower h => ⟨?_, delta_cases _⟩
  by_cases htick : turn = .tick e
  · subst htick
    rw [runTurn_tick] at h
    cases h
    exact .inl ⟨rfl, serviceTick_steps e _ _ s⟩
  · exact .inr ⟨htick, by rw [runTurn_enc_of_ne_tick h htick hpower]⟩

/-- What every allowed turn keeps, every list of them keeps. -/
theorem runTurns_keeps {α : Type} {allowed : Turn → Prop} {part : State → α}
    (hturn : ∀ turn s t, allowed turn → runTurn turn s = .next t → part t = part s)
    {turns : List Turn} {s t : State} (hallowed : ∀ turn ∈ turns, allowed turn) (h : runTurns turns s = .next t) :
    part t = part s := by
  induction turns generalizing s with
  | nil => cases h; rfl
  | cons turn turns ih =>
    obtain ⟨hfirst, hrest⟩ := List.forall_mem_cons.mp hallowed
    obtain ⟨u, hu, ht⟩ := andThen_eq_next h
    exact (ih hrest ht).trans (hturn turn s u hfirst hu)

theorem position_congr {s t : State} {e : Encoder} (h : (t.enc.get e, t.cfg) = (s.enc.get e, s.cfg)) :
    position t e = position s e := by
  obtain ⟨henc, hcfg⟩ := Prod.mk.inj h
  rw [position, position, henc, hcfg]

theorem exec_getPosition (e : Encoder) (s : State) :
    exec (.getPosition e) s = .next (s.setRet (.position (position s e))) := rfl

/-- Settles O22: the value is the position, which only a TICK of the encoder and power-on write. -/
theorem getPositionReturnsCount : Obligations.GetPositionReturnsCount := by
  refine fun s e => ⟨?_, fun turns u hturns h => ?_, fun p0 p1 => ?_⟩
  · exact ⟨_, _, exec_getPosition e s, rfl, fun hone => position_of_one hone e, fun hfour => position_of_four hfour e,
      setRet_frame s _⟩
  · have hkept : (u.enc.get e, u.cfg) = (s.enc.get e, s.cfg) := by
      refine runTurns_keeps (part := fun s => (s.enc.get e, s.cfg)) ?_ hturns h
      rintro turn s t ⟨htick, hpower⟩ hturn
      obtain ⟨hcfg, _⟩ := runTurn_sameSetup hturn
      exact Prod.ext (runTurn_enc_of_ne_tick hturn htick hpower) hcfg
    exact ⟨_, _, exec_getPosition e s, exec_getPosition e u, congrArg OpValue.position (position_congr hkept)⟩
  · exact ⟨_, exec_getPosition e _, by rw [position_powerOn]; rfl⟩

/-! The logs (R26, R27, R82). -/

theorem execLoopStep_tx {s t : State} (h : execLoopStep s = .next t) :
    ∃ l, t.tx = s.tx ++ l ∧ (l = [] ∨ s.loop.phase = .l2 ∧ l = txFrame (snapshotOf s)) := by
  cases hphase : s.loop.phase with
  | l0 => rw [execLoopStep_l0 hphase] at h; cases h; exact ⟨[], (List.append_nil _).symm, .inl rfl⟩
  | l1 => rw [execLoopStep_l1 hphase] at h; cases h; exact ⟨[], (List.append_nil _).symm, .inl rfl⟩
  | l2 =>
    rw [execLoopStep_l2 hphase] at h
    cases h
    refine ⟨_, maybeSend_tx (snapshotOf s) s, ?_⟩
    split_ifs
    · exact .inl rfl
    · exact .inr ⟨rfl, rfl⟩
  | l3 =>
    rw [execLoopStep_l3 hphase] at h
    obtain ⟨u, hpoll, ht⟩ := andThen_eq_next h
    cases ht
    obtain ⟨_, htx⟩ := pollCommand_sameTelemetry hpoll
    exact ⟨[], by rw [State.setLoopPhase_tx, htx, List.append_nil], .inl rfl⟩

/-- A turn but MAIN's and power-on leaves the telemetry half and the loop registers. -/
theorem runTurn_notMain {turn : Turn} {s t : State} (hturn : notMain turn = true) (h : runTurn turn s = .next t) :
    SameTelemetry s t ∧ SameLoop s t := by
  cases turn with
  | main => cases hturn
  | powerOn p q => cases hturn
  | tick e => rw [runTurn_tick] at h; cases h; exact ⟨⟨rfl, rfl⟩, rfl⟩
  | deliver b =>
    cases h
    obtain ⟨htelemetry, hloop, _⟩ := hostDeliver_frame b s
    exact ⟨htelemetry, hloop⟩
  | setPins e p =>
    cases h
    obtain ⟨_, ⟨htelemetry, _, hloop⟩, _⟩ := envSetPins_frame e p s
    exact ⟨htelemetry, hloop⟩

theorem turn_cases (turn : Turn) : turn = .main ∨ (∃ p q, turn = .powerOn p q) ∨ notMain turn = true := by
  cases turn with
  | main => exact .inl rfl
  | powerOn p q => exact .inr (.inl ⟨p, q, rfl⟩)
  | _ => exact .inr (.inr rfl)

/-- Settles O59: the outbound log by MAIN's step at L2, the motor log by who drives the outputs. -/
theorem logsOnlyGrow : Obligations.LogsOnlyGrow := by
  refine fun turn s t h hpower => ⟨?_, ?_⟩
  · rcases turn_cases turn with rfl | ⟨p, q, rfl⟩ | hother
    · obtain ⟨l, htx, hl⟩ := execLoopStep_tx h
      exact ⟨l, htx, hl.imp_right fun hsent => ⟨rfl, hsent⟩⟩
    · exact absurd rfl (hpower p q)
    · obtain ⟨⟨_, htx⟩, _⟩ := runTurn_notMain hother h
      exact ⟨[], by rw [htx, List.append_nil], .inl rfl⟩
  · rcases runTurn_outputs h hpower with ⟨_, _, hmotor⟩ | ⟨hmain, hphase, b1, b2, _, _, hmotor, _⟩
    · exact ⟨[], by rw [hmotor, List.append_nil], .inl rfl⟩
    · exact ⟨[speedOf b1 b2], hmotor, .inr ⟨hmain, hphase, _, rfl⟩⟩

end Sys2Proof.Machine
end

section
/-! The step of the machine (20_memory R40; 30_encoding R60, R61; 44_control_loop R98; 70_reset_and_hazards R116): a step is
its turn, no turn reads the script, MAIN at L3 runs the bytes at the head of `rx`, and power-on forgets. -/

namespace Sys2Proof.Machine

open Sys2Proof.Safety

/-! A step is the turn that the script gives out (R40, R98). -/

theorem step_of_script {s : State} {turn : Turn} {rest : List Turn} (h : s.script = turn :: rest) :
    step s = runTurn turn (s.setScript rest) := by
  rw [step, nextTurn_cons h]

theorem step_of_empty_script {s : State} (h : s.script = []) :
    step s = runTurn (Config.freeTurn s.turns) (s.setTurns (s.turns + 1)) := by
  rw [step, nextTurn_nil h]

theorem runTurn_eq_exec_of_fetchInstr {turn : Turn} {s : State} {i : Instr} (h : fetchInstr turn s = some i) :
    runTurn turn s = exec i s := by
  cases turn <;> cases h <;> rfl

/-- Settles O46: the step is the turn at the head of the script, whose instruction does not read the script. -/
theorem stepRunsTheFetchedInstruction : Obligations.StepRunsTheFetchedInstruction :=
  ⟨fun _ _ _ => step_of_script, fun _ _ => step_of_script, fun _ => step_of_empty_script,
    fun _ _ _ => runTurn_eq_exec_of_fetchInstr⟩

/-! The receive step (R86, R95). -/

theorem decodePoll_of_short {rx : List Byte} (h : rx.length < 3) : decodePoll rx = .cmdWait := if_pos h

theorem decodePoll_cons (b0 b1 b2 : Byte) (rest : List Byte) : decodePoll (b0 :: b1 :: b2 :: rest) = decodeHead b0 :=
  if_neg (by simp [Config.rxFrameLen])

/-- What the bytes of `rx` decode to is the outcome of CMD_POLL. -/
theorem exec_decodePoll (s : State) : exec (decodePoll s.rx) s = pollCommand s := by
  rcases pollCommand_cases s with
    ⟨hshort, hpoll⟩ | ⟨b0, b1, b2, rest, hrx, hsync, hpoll⟩ | ⟨b1, b2, rest, hrx, hpoll⟩
  · rw [hpoll, decodePoll_of_short hshort]
    rfl
  · rw [hpoll, hrx, decodePoll_cons, decodeHead_of_ne hsync, exec_cmdDiscard_of_cons b0 hrx]
  · rw [hpoll, hrx, decodePoll_cons, decodeHead_sync, exec_cmdDecode_of_cons hrx]

/-- Settles O47: at L3 the step is CMD_POLL, which is what the bytes decode to, and with a whole frame its RXF. -/
theorem receiveStepRunsTheDecodedBytes : Obligations.ReceiveStepRunsTheDecodedBytes := by
  intro s rest hscript hphase
  obtain ⟨u, hpoll⟩ := pollCommand_next (s.setScript rest)
  refine ⟨u, (exec_decodePoll (s.setScript rest)).trans hpoll, ?_, fun lo hi tail hrx => ?_⟩
  · rw [step_of_script hscript]
    exact exec_loopStep_l3 hphase hpoll
  · have hrx' : (s.setScript rest).rx = Config.rxSync :: lo :: hi :: tail := hrx
    rw [exec_rxf_of_cons lo hi hrx', ← pollCommand_of_frame hrx', hpoll]

/-! No turn reads the script (R61, R98). -/

/-- The outcome `o` with the script `l` put into its next state. -/
def withScript (l : List Turn) (o : Host.Outcome State Fault Refusal) : Host.Outcome State Fault Refusal :=
  andThen o fun t => .next (t.setScript l)

theorem maybeSend_setScript (u : Snapshot) (s : State) (l : List Turn) :
    maybeSend u (s.setScript l) = (maybeSend u s).setScript l := by
  by_cases hsent : s.lastSent = some u
  · rw [maybeSend_of_sent hsent, maybeSend_of_sent (s := s.setScript l) hsent]
  · rw [maybeSend_of_changed hsent, maybeSend_of_changed (s := s.setScript l) hsent]
    rfl

theorem pollCommand_setScript (s : State) (l : List Turn) :
    pollCommand (s.setScript l) = withScript l (pollCommand s) := by
  rcases pollCommand_cases s with
    ⟨hshort, hpoll⟩ | ⟨b0, b1, b2, rest, hrx, hsync, hpoll⟩ | ⟨b1, b2, rest, hrx, hpoll⟩
  · rw [hpoll, pollCommand_of_short (s := s.setScript l) hshort]
    rfl
  · rw [hpoll, pollCommand_of_garbage (s := s.setScript l) hrx hsync]
    rfl
  · rw [hpoll, pollCommand_of_frame (s := s.setScript l) hrx]
    rfl

theorem execLoopStep_setScript (s : State) (l : List Turn) :
    execLoopStep (s.setScript l) = withScript l (execLoopStep s) := by
  cases hphase : s.loop.phase with
  | l0 => rw [execLoopStep_l0 hphase, execLoopStep_l0 (s := s.setScript l) hphase]; rfl
  | l1 => rw [execLoopStep_l1 hphase, execLoopStep_l1 (s := s.setScript l) hphase]; rfl
  | l2 =>
    rw [execLoopStep_l2 hphase, execLoopStep_l2 (s := s.setScript l) hphase, maybeSend_setScript]
    rfl
  | l3 =>
    obtain ⟨t, hpoll⟩ := pollCommand_next s
    rw [execLoopStep_l3 hphase, execLoopStep_l3 (s := s.setScript l) hphase, pollCommand_setScript, hpoll]
    rfl

theorem hostDeliver_setScript (b : Byte) (s : State) (l : List Turn) :
    hostDeliver b (s.setScript l) = (hostDeliver b s).setScript l := by
  rw [hostDeliver, hostDeliver, apply_ite (State.setScript · l)]
  rfl

theorem envSetPins_setScript (e : Encoder) (p : PinWord) (s : State) (l : List Turn) :
    envSetPins e p (s.setScript l) = (envSetPins e p s).setScript l := by
  rw [envSetPins, envSetPins, apply_ite (State.setScript · l)]
  rfl

theorem runTurn_setScript (turn : Turn) (s : State) (l : List Turn) :
    runTurn turn (s.setScript l) = withScript l (runTurn turn s) := by
  cases turn with
  | main => exact execLoopStep_setScript s l
  | tick e => rw [runTurn_tick, runTurn_tick]; rfl
  | deliver b => exact congrArg Host.Outcome.next (hostDeliver_setScript b s l)
  | setPins e p => exact congrArg Host.Outcome.next (envSetPins_setScript e p s l)
  | powerOn p q => rfl

theorem run_succ_of_next {M : Host.Core} {s t : M.State} (h : M.step s = .next t) (n : Nat) :
    M.run (n + 1) s = M.run n t := by
  simp only [Host.Core.run, h]

theorem core_run_succ_of_next {s t : State} (h : step s = .next t) (n : Nat) :
    Sys2Proof.core.run (n + 1) s = Sys2Proof.core.run n t :=
  run_succ_of_next (M := Sys2Proof.core) h n

theorem setScript_self {s : State} {l : List Turn} (h : s.script = l) : s.setScript l = s := by
  rw [← h]
  rfl

/-- Settles O49, by induction on the turns: each step is the turn at the head, which neither reads nor writes the rest
of the script. -/
theorem scriptIsAnInterleaving : Obligations.ScriptIsAnInterleaving := by
  intro turns rest s hscript
  induction turns generalizing s with
  | nil => exact congrArg Host.Outcome.next (setScript_self (l := rest) hscript).symm
  | cons turn turns ih =>
    obtain ⟨t, ht⟩ := runTurn_next turn (s.setScript rest)
    have hrest : t.script = rest := by
      obtain ⟨_, hkept, _⟩ := runTurn_sameSetup ht
      exact hkept
    have hstep : step s = .next (t.setScript (turns ++ rest)) := by
      rw [step_of_script hscript]
      have hscripted := runTurn_setScript turn (s.setScript rest) (turns ++ rest)
      rw [ht] at hscripted
      exact hscripted
    have htail : Sys2Proof.core.run turns.length (t.setScript (turns ++ rest)) = runTurns turns (t.setScript rest) :=
      ih (t.setScript (turns ++ rest)) rfl
    rw [List.length_cons, core_run_succ_of_next hstep, htail, setScript_self hrest, runTurns, ht, andThen_next]

/-! Reset (R116, R118). -/

/-- Settles O53: the reset state is written out. -/
theorem resetStateHasResetValues : Obligations.ResetStateHasResetValues := by
  refine ⟨fun e => ?_, rfl, rfl, rfl, rfl, rfl, rfl⟩
  cases e with
  | cart => exact ⟨rfl, rfl, rfl, rfl⟩
  | angle => exact ⟨rfl, rfl, rfl, rfl⟩

/-- Settles O54: power-on reads the parameters, the script and the counter, and nothing else of the state. -/
theorem powerOnForgetsEverything : Obligations.PowerOnForgetsEverything := by
  rintro s s' p0 p1 ⟨hcfg, hscript, hturns⟩
  rw [runTurn, runTurn, powerOn, powerOn, hcfg, hscript, hturns]

end Sys2Proof.Machine
end

section
/-! The invariant of the machine (10_state R18 to R28): its parts, each kept by the operations that write its fields and
untouched by the others, and with them kept by every turn and established by power-on. -/

namespace Sys2Proof.Machine

open Sys2Proof.Safety

/-! The parts, and on which fields each depends. -/

/-- The clauses of the invariant on one encoder: the latch against the pins, the spare register of `LATCH_DIV` = 1, the
position of `LATCH_DIV` = 4 at `LATCH_PHASE`. -/
def EncoderInv (s : State) (e : Encoder) : Prop :=
  LatchInv s e ∧ (s.cfg.latchDiv = .one → (s.enc.get e).latched = 0) ∧ ReloadInv s e

theorem inv_of_parts {s : State} (htelemetry : TelemetryInv s) (hcommand : CommandInv s)
    (hencoders : ∀ e, EncoderInv s e) (hbuffer : BufferInv s) : Inv s := by
  obtain ⟨hlatchCart, hspareCart, hreloadCart⟩ := hencoders .cart
  obtain ⟨hlatchAngle, hspareAngle, hreloadAngle⟩ := hencoders .angle
  exact ⟨htelemetry, hcommand, hlatchCart, hlatchAngle, hbuffer, fun hone => ⟨hspareCart hone, hspareAngle hone⟩,
    hreloadCart, hreloadAngle⟩

theorem encoderInv_of_inv {s : State} (h : Inv s) (e : Encoder) : EncoderInv s e := by
  cases e with
  | cart => exact ⟨h.latchCart, fun hone => (h.oneRegister hone).1, h.reloadCart⟩
  | angle => exact ⟨h.latchAngle, fun hone => (h.oneRegister hone).2, h.reloadAngle⟩

theorem telemetryInv_congr {s t : State} (h : SameTelemetry s t) (hcfg : t.cfg = s.cfg) (hs : TelemetryInv s) :
    TelemetryInv t := by
  obtain ⟨hlast, htx⟩ := h
  rwa [TelemetryInv, hlast, htx, hcfg]

theorem commandInv_congr {s t : State} (h : SameOutputs s t) (hs : CommandInv s) : CommandInv t := by
  obtain ⟨hled, hhistory, hmotor⟩ := h
  rwa [CommandInv, hled, hhistory, hmotor]

theorem encoderInv_congr {s t : State} {e : Encoder} (henc : t.enc.get e = s.enc.get e)
    (hirq : t.irq.get e = s.irq.get e) (hpins : t.pins.get e = s.pins.get e) (hcfg : t.cfg = s.cfg)
    (hs : EncoderInv s e) : EncoderInv t e := by
  rwa [EncoderInv, LatchInv, ReloadInv, henc, hirq, hpins, hcfg]

theorem encoderInv_of_sameEncoders {s t : State} (h : SameEncoders s t) (hcfg : t.cfg = s.cfg) {e : Encoder}
    (hs : EncoderInv s e) : EncoderInv t e := by
  obtain ⟨henc, hirq, hpins⟩ := h
  exact encoderInv_congr (by rw [henc]) (by rw [hirq]) (by rw [hpins]) hcfg hs

theorem bufferInv_of_length_le {s t : State} (hrx : t.rx.length ≤ s.rx.length) (hcfg : t.cfg = s.cfg)
    (hs : BufferInv s) : BufferInv t := by
  obtain ⟨hpos, hle⟩ := hs
  exact ⟨by rwa [hcfg], by rw [hcfg]; exact hrx.trans hle⟩

/-! The telemetry half under MAYBE_SEND (R80, R82, R83). -/

/-- The frame that is sent extends the stream by a snapshot that the gate found to differ from the last one. -/
theorem telemetryInv_maybeSend {s : State} {u : Snapshot} (hangle : u.angle < Config.modulus) (hs : TelemetryInv s) :
    TelemetryInv (maybeSend u s) := by
  rcases maybeSend_cases u s with ⟨_, h⟩ | ⟨hchanged, h⟩
  · rwa [h]
  · obtain ⟨l, htx, hlast, hangles, hchain, hhead⟩ := hs
    rw [h]
    refine ⟨l ++ [u], ?_, ?_, ?_, ?_, ?_⟩
    · simp [htx, frames]
    · simp [lastOf]
    · exact List.forall_mem_append.mpr ⟨hangles, List.forall_mem_singleton.mpr hangle⟩
    · refine List.isChain_append.mpr ⟨hchain, List.isChain_singleton u, fun x hx y hy => ?_⟩
      have hx' : s.lastSent = some x := by rw [hlast, lastOf, Option.mem_def.mp hx, Option.some_or]
      have hy' : u = y := by simpa using hy
      rintro rfl
      exact hchanged (hy' ▸ hx')
    · cases l with
      | nil =>
        intro t ht
        have ht' : u = t := by simpa using ht
        rw [← ht']
        exact fun hinit => hchanged (hlast.trans hinit)
      | cons first l => exact hhead

/-! The receive half under CMD_POLL and HOST_RX (R28, R57, R90). -/

theorem speedOf_range (b1 b2 : Byte) : -32768 ≤ speedOf b1 b2 ∧ speedOf b1 b2 ≤ 32767 := by
  have hlo : -2 ^ 15 ≤ speedOf b1 b2 := BitVec.le_toInt _
  have hhi : speedOf b1 b2 < 2 ^ 15 := BitVec.toInt_lt
  omega

theorem commandInv_applySpeed {s : State} {v : Int} (hv : -32768 ≤ v ∧ v ≤ 32767) (hs : CommandInv s) :
    CommandInv (applySpeed v s) := by
  obtain ⟨hspeeds, _, hlevel, hchain⟩ := hs
  refine ⟨?_, by simp, ?_, ?_⟩
  · exact List.forall_mem_append.mpr ⟨hspeeds, List.forall_mem_singleton.mpr hv⟩
  · rw [applySpeed_ledHistory, applySpeed_led]
    split_ifs with hsame
    · rw [hlevel, hsame]
    · rw [List.getLast?_concat]
  · rw [applySpeed_ledHistory]
    split_ifs with hsame
    · exact hchain
    · refine List.isChain_append.mpr ⟨hchain, List.isChain_singleton _, fun x hx y hy => ?_⟩
      have hx' : s.led = x := by rw [hlevel] at hx; simpa using hx
      have hy' : ledLevel v = y := by simpa using hy
      rwa [← hx', ← hy']

theorem pollCommand_receiveInv {s t : State} (h : pollCommand s = .next t) (hcommand : CommandInv s)
    (hbuffer : BufferInv s) : CommandInv t ∧ BufferInv t := by
  rcases pollCommand_cases s with ⟨_, hpoll⟩ | ⟨b0, b1, b2, rest, hrx, _, hpoll⟩ | ⟨b1, b2, rest, hrx, hpoll⟩
  · rw [hpoll] at h
    cases h
    exact ⟨hcommand, hbuffer⟩
  · rw [hpoll] at h
    cases h
    exact ⟨commandInv_congr (setRx_sameOutputs s _) hcommand,
      bufferInv_of_length_le (s := s) (by simp [hrx]) rfl hbuffer⟩
  · rw [hpoll] at h
    cases h
    have hcommand' := commandInv_congr (setRx_sameOutputs s rest) hcommand
    refine ⟨commandInv_applySpeed (speedOf_range b1 b2) hcommand', bufferInv_of_length_le (s := s) ?_ rfl hbuffer⟩
    rw [applySpeed_rx, State.setRx_rx, hrx, List.length_cons, List.length_cons, List.length_cons]
    omega

theorem bufferInv_hostDeliver (b : Byte) {s : State} (hs : BufferInv s) : BufferInv (hostDeliver b s) := by
  rcases hostDeliver_cases b s with ⟨hroom, h⟩ | ⟨_, h⟩
  · obtain ⟨hpos, _⟩ := hs
    rw [h]
    exact ⟨hpos, by rw [State.setRx_rx, List.length_append]; exact hroom⟩
  · rwa [h]

/-! The encoders under a TICK and under ENV (R21, R64, R65). -/

/-- A TICK that reads the pins leaves its phase at them, and its position in step where it reloads. -/
theorem encoderInv_serviceTick (e : Encoder) (d : Int) {s : State} {f : Encoder} (hs : EncoderInv s f) :
    EncoderInv (serviceTick e d (pinRead s e) s) f := by
  have left := serviceTick_tickLeaves e d (pinRead s e) s
  by_cases hf : f = e
  · subst hf
    obtain ⟨_, hspare, _⟩ := hs
    refine ⟨.inr left.phase, fun hone => (left.spareKept hone).trans (hspare hone), fun hfour hphase => ?_⟩
    rw [left.phase] at hphase
    rw [serviceTick_latched, if_pos ((reloads_iff s.cfg _).mpr ⟨hfour, hphase⟩)]
  · obtain ⟨henc, hirq⟩ := left.others f hf
    exact encoderInv_congr henc hirq rfl rfl hs

/-- A change of the pins leaves its interrupt pending. -/
theorem encoderInv_envSetPins (e : Encoder) (p : PinWord) {s : State} {f : Encoder} (hs : EncoderInv s f) :
    EncoderInv (envSetPins e p s) f := by
  rcases envSetPins_cases e p s with ⟨_, h⟩ | ⟨_, h⟩
  · rwa [h]
  · rw [h]
    by_cases hf : f = e
    · subst hf
      obtain ⟨_, hrest⟩ := hs
      exact ⟨.inl (PerEncoder.get_set_same _ _ _), hrest⟩
    · exact encoderInv_congr (s := s) rfl (PerEncoder.get_set_other _ hf _) (PerEncoder.get_set_other _ hf _) rfl hs

/-! Power-on (R117). -/

theorem encoderInv_powerOn (p0 p1 : PinWord) (s : State) (e : Encoder) : EncoderInv (powerOn p0 p1 s) e := by
  rw [EncoderInv, LatchInv, ReloadInv, powerOn_enc]
  have hzero : (0#32).sshiftRight 2 = 0#32 := by decide
  exact ⟨.inr rfl, fun _ => rfl, fun _ _ => hzero.symm⟩

theorem powerOn_inv (p0 p1 : PinWord) {s : State} (hcapacity : 0 < s.cfg.rxCapacity) : Inv (powerOn p0 p1 s) := by
  have htelemetry : TelemetryInv (powerOn p0 p1 s) := ⟨[], rfl, rfl, nofun, .nil, nofun⟩
  have hcommand : CommandInv (powerOn p0 p1 s) := ⟨nofun, rfl, rfl, List.isChain_singleton _⟩
  exact inv_of_parts htelemetry hcommand (encoderInv_powerOn p0 p1 s) ⟨hcapacity, Nat.zero_le _⟩

/-- Settles O51: power-on meets every part, and the reset state is that of a power-on with all pins low. -/
theorem powerOnEstablishesTheInvariant : Obligations.PowerOnEstablishesTheInvariant := by
  have hreset : Inv (powerOn 0b00#2 0b00#2 State.reset) := powerOn_inv _ _ (by decide)
  exact ⟨fun s p0 p1 => powerOn_inv p0 p1, hreset⟩

/-! Every turn (R97, R98). -/

theorem execLoopStep_inv {s t : State} (hs : Inv s) (h : execLoopStep s = .next t) : Inv t := by
  obtain ⟨hcfg, _⟩ := execLoopStep_sameSetup h
  have hencoders (e : Encoder) : EncoderInv t e :=
    encoderInv_of_sameEncoders (execLoopStep_sameEncoders h) hcfg (encoderInv_of_inv hs e)
  cases hphase : s.loop.phase with
  | l0 => rw [execLoopStep_l0 hphase] at h; cases h; exact inv_of_parts hs.telemetry hs.command hencoders hs.buffer
  | l1 => rw [execLoopStep_l1 hphase] at h; cases h; exact inv_of_parts hs.telemetry hs.command hencoders hs.buffer
  | l2 =>
    rw [execLoopStep_l2 hphase] at h
    cases h
    have htelemetry : TelemetryInv (maybeSend (snapshotOf s) s) :=
      telemetryInv_maybeSend (normalizeAngle_lt _) hs.telemetry
    obtain ⟨hreceive, _⟩ := maybeSend_frame (snapshotOf s) s
    have hcommand := commandInv_congr (sameOutputs_of_sameReceive hreceive) hs.command
    obtain ⟨hrx, _⟩ := hreceive
    have hbuffer := bufferInv_of_length_le (by rw [State.setLoopPhase_rx, hrx]) hcfg hs.buffer
    exact inv_of_parts htelemetry hcommand hencoders hbuffer
  | l3 =>
    rw [execLoopStep_l3 hphase] at h
    obtain ⟨u, hpoll, ht⟩ := andThen_eq_next h
    cases ht
    obtain ⟨hcommand, hbuffer⟩ := pollCommand_receiveInv hpoll hs.command hs.buffer
    have hsame : SameTelemetry s u := pollCommand_sameTelemetry hpoll
    have htelemetry : TelemetryInv u := telemetryInv_congr hsame hcfg hs.telemetry
    exact inv_of_parts htelemetry hcommand hencoders hbuffer

theorem runTurn_inv {turn : Turn} {s t : State} (hs : Inv s) (h : runTurn turn s = .next t) : Inv t := by
  obtain ⟨hcfg, _⟩ := runTurn_sameSetup h
  cases turn with
  | main => exact execLoopStep_inv hs h
  | tick e =>
    rw [runTurn_tick] at h
    cases h
    exact inv_of_parts hs.telemetry hs.command (fun f => encoderInv_serviceTick e _ (encoderInv_of_inv hs f)) hs.buffer
  | deliver b =>
    cases h
    obtain ⟨htelemetry, _⟩ := hostDeliver_frame b s
    exact inv_of_parts (telemetryInv_congr htelemetry hcfg hs.telemetry)
      (commandInv_congr (hostDeliver_sameOutputs b s) hs.command)
      (fun f => encoderInv_of_sameEncoders (hostDeliver_sameEncoders b s) hcfg (encoderInv_of_inv hs f))
      (bufferInv_hostDeliver b hs.buffer)
  | setPins e p =>
    cases h
    obtain ⟨_, ⟨htelemetry, ⟨hrx, _⟩, _⟩, _⟩ := envSetPins_frame e p s
    exact inv_of_parts (telemetryInv_congr htelemetry hcfg hs.telemetry)
      (commandInv_congr (envSetPins_sameOutputs e p s) hs.command)
      (fun f => encoderInv_envSetPins e p (encoderInv_of_inv hs f))
      (bufferInv_of_length_le (by rw [hrx]) hcfg hs.buffer)
  | powerOn p q =>
    cases h
    obtain ⟨hcapacity, _⟩ := hs.buffer
    exact powerOn_inv p q hcapacity

/-- The invariant does not speak of the model's own script and counter. -/
theorem nextTurn_inv {s : State} (hs : Inv s) : Inv (nextTurn s).2 := by
  obtain ⟨script, turns, hnext⟩ := nextTurn_state s
  rw [hnext]
  have hencoders (e : Encoder) : EncoderInv ((s.setScript script).setTurns turns) e :=
    encoderInv_of_sameEncoders (s := s) ⟨rfl, rfl, rfl⟩ rfl (encoderInv_of_inv hs e)
  exact inv_of_parts hs.telemetry hs.command hencoders hs.buffer

/-- Settles O50: giving the turn out keeps the invariant, and every turn keeps it. -/
theorem everyStepKeepsTheInvariant : Obligations.EveryStepKeepsTheInvariant :=
  fun _ _ hs h => runTurn_inv (nextTurn_inv hs) h

end Sys2Proof.Machine
end

section
/-! The Control Loop over whole iterations (44_control_loop R96, R99, R100; 20_memory R41, R42): four steps from L0, the
steps with other turns between them, the end-to-end scenario, and the progress of admissible runs. -/

namespace Sys2Proof.Machine

open Sys2Proof.Safety

/-! One iteration (R96). -/

/-- The snapshot of the two positions as they are now. -/
def positionSnapshot (s : State) : Snapshot :=
  { cart := position s .cart, angle := normalizeAngle (position s .angle).toInt }

/-- The state that the two steps from L0 leave: both positions sampled, L2 next. -/
def sampled (s : State) : State :=
  ((s.setLoopCart (position s .cart)).setLoopAngleRaw (position s .angle)).setLoopPhase .l2

/-- The state that the three steps from L0 leave: the snapshot of the samples reported, L3 next. -/
def reported (s : State) : State := (maybeSend (positionSnapshot s) (sampled s)).setLoopPhase .l3

theorem execTimes_loopStep_reported {s : State} (h : s.loop.phase = .l0) (n : Nat) :
    execTimes .loopStep (n + 3) s = execTimes .loopStep n (reported s) := by
  rw [execTimes_succ_of_next (exec_loopStep_l0 h), execTimes_succ_of_next (exec_loopStep_l1 rfl),
    execTimes_succ_of_next (exec_loopStep_l2 rfl)]
  rfl

theorem reported_lastSent (s : State) : (reported s).lastSent = some (positionSnapshot s) := maybeSend_lastSent _ _

theorem reported_tx (s : State) :
    (reported s).tx = s.tx ++ if s.lastSent = some (positionSnapshot s) then [] else txFrame (positionSnapshot s) :=
  maybeSend_tx _ _

theorem reported_frame (s : State) :
    SameEncoders s (reported s) ∧ SameReceive s (reported s) ∧ SameSetup s (reported s) := by
  have hencoders := maybeSend_sameEncoders (positionSnapshot s) (sampled s)
  obtain ⟨hreceive, _, hsetup, _⟩ := maybeSend_frame (positionSnapshot s) (sampled s)
  exact ⟨hencoders, hreceive, hsetup⟩

/-- Settles O43: three steps report, the fourth is the one CMD_POLL, which leaves the telemetry half. -/
theorem iterationSendsAtMostOneFrame : Obligations.IterationSendsAtMostOneFrame := by
  intro s hphase
  obtain ⟨v, hpoll⟩ := pollCommand_next (reported s)
  have hfourth : execTimes .loopStep 4 s = .next (v.setLoopPhase .l0) := by
    rw [execTimes_loopStep_reported hphase, execTimes_succ_of_next (exec_loopStep_l3 rfl hpoll), execTimes]
  obtain ⟨hlast, htx⟩ := pollCommand_sameTelemetry hpoll
  obtain ⟨⟨henc, hirq, hpins⟩, hreceive, hsetup⟩ := reported_frame s
  obtain ⟨henc', hirq', hpins'⟩ := pollCommand_sameEncoders hpoll
  obtain ⟨_, hsetup', _⟩ := pollCommand_frame hpoll
  exact ⟨reported s, v, _, execTimes_loopStep_reported hphase 0, hpoll, hfourth, rfl, rfl, hreceive,
    ⟨rfl, rfl, rfl, rfl⟩, htx.trans (reported_tx s), hlast.trans (reported_lastSent s),
    ⟨henc'.trans henc, hirq'.trans hirq, hpins'.trans hpins⟩, sameSetup_trans hsetup hsetup'⟩

/-! Other agents between the steps (R41, R42). -/

theorem runTurns_notMain {turns : List Turn} {s t : State} (hturns : ∀ turn ∈ turns, notMain turn = true)
    (h : runTurns turns s = .next t) : t.lastSent = s.lastSent ∧ t.tx = s.tx ∧ t.loop = s.loop := by
  have hkept : (t.lastSent, t.tx, t.loop) = (s.lastSent, s.tx, s.loop) := by
    refine runTurns_keeps (part := fun s => (s.lastSent, s.tx, s.loop)) (fun turn s t hturn hrun => ?_) hturns h
    obtain ⟨⟨hlast, htx⟩, hloop⟩ := runTurn_notMain hturn hrun
    exact Prod.ext hlast (Prod.ext htx hloop)
  simpa using hkept

/-- A MAIN step and then turns of the other agents: the telemetry half and the loop are as the MAIN step left them. -/
theorem runTurns_main_notMain {turns : List Turn} {s u t : State} (hmain : exec .loopStep s = .next u)
    (hturns : ∀ turn ∈ turns, notMain turn = true) (h : runTurns (.main :: turns) s = .next t) :
    t.lastSent = u.lastSent ∧ t.tx = u.tx ∧ t.loop = u.loop := by
  obtain ⟨v, hv, hrest⟩ := andThen_eq_next h
  have heq : u = v := Host.Outcome.next.inj (hmain.symm.trans hv)
  exact runTurns_notMain hturns (heq ▸ hrest)

/-- Settles O44: the samples stay in the loop's registers until L2, and nothing is sent before. -/
theorem reportCarriesItsOwnSamples : Obligations.ReportCarriesItsOwnSamples := by
  intro s s1 s2 between1 between2 hphase hturns1 hturns2 hrun1 hrun2
  obtain ⟨hlast1, htx1, hloop1⟩ := runTurns_main_notMain (exec_loopStep_l0 hphase) hturns1 hrun1
  have hphase1 : s1.loop.phase = .l1 := by rw [hloop1]; rfl
  obtain ⟨hlast2, htx2, hloop2⟩ := runTurns_main_notMain (exec_loopStep_l1 hphase1) hturns2 hrun2
  have hphase2 : s2.loop.phase = .l2 := by rw [hloop2]; rfl
  have htx : s2.tx = s.tx := htx2.trans htx1
  have hlast : s2.lastSent = s.lastSent := hlast2.trans hlast1
  have hsnapshot : snapshotOf s2 = { cart := position s .cart, angle := normalizeAngle (position s1 .angle).toInt } := by
    have hcart : s1.loop.cart = position s .cart := by rw [hloop1]; rfl
    rw [snapshotOf, hloop2, ← hcart]
    rfl
  have hreport : runTurns [.main] s2 = .next ((maybeSend (snapshotOf s2) s2).setLoopPhase .l3) := by
    have hstep : runTurn .main s2 = _ := exec_loopStep_l2 hphase2
    rw [runTurns, hstep, andThen_next, runTurns]
  refine ⟨hphase1, hphase2, htx, hlast, _, hreport, ?_, ?_⟩
  · rw [← hsnapshot]
    exact maybeSend_lastSent _ _
  · rw [← hsnapshot, ← htx, ← hlast]
    exact maybeSend_tx _ _

/-! The end-to-end scenario (R100). -/

theorem powerOn_atRest (p0 p1 : PinWord) (s : State) : AtRest (powerOn p0 p1 s) := fun e => by
  rw [powerOn_enc, resetEncoder]

/-- Serviced moves with MAIN steps among them complete and count exactly; with moves alone MAIN's state stays. -/
theorem runTurns_scenarioTurns (ms : List (Option Move)) {s : State} (h : AtRest s) :
    ∃ u, runTurns (scenarioTurns ms s.pins) s = .next u ∧ CountedBy (fun e => netCount e (ms.filterMap id)) s u ∧
      ((∀ m ∈ ms, m ≠ none) → SameMain s u) := by
  induction ms generalizing s with
  | nil => exact ⟨s, rfl, countedBy_zero h ⟨rfl, rfl, rfl⟩ rfl, fun _ => sameMain_refl s⟩
  | cons m ms ih =>
    cases m with
    | none =>
      obtain ⟨t, ht⟩ := runTurn_next .main s
      obtain ⟨hcfg, _⟩ := runTurn_sameSetup ht
      have hencoders := runTurn_main_sameEncoders ht
      have hfirst := countedBy_zero h hencoders hcfg
      obtain ⟨_, _, hpins⟩ := hencoders
      obtain ⟨u, hrun, hcounted, _⟩ := ih hfirst.atRest
      refine ⟨u, ?_, ?_, fun hall => absurd rfl (hall none List.mem_cons_self)⟩
      · rw [scenarioTurns, runTurns, ht, andThen_next, ← hpins, hrun]
      · simpa using hfirst.trans hcounted
    | some m =>
      have hfirst := afterMove_countedBy m h
      obtain ⟨u, hrun, hcounted, hmain⟩ := ih hfirst.atRest
      refine ⟨u, ?_, hfirst.trans hcounted, fun hall => ?_⟩
      · rw [scenarioTurns, runTurns_append_of_next (runTurns_moveTurns _ _ s), ← moved_pins]
        exact hrun
      · obtain ⟨hmoved, _⟩ := moved_frame (moveEncoder m) (moveTarget m (s.pins.get (moveEncoder m))) s
        exact sameMain_trans hmoved (hmain fun m hm => hall m (List.mem_cons_of_mem _ hm))

/-- With `LATCH_DIV` = 1 a count from power-on is the position. -/
theorem position_of_countedBy_powerOn {n : Encoder → Int} {p0 p1 : PinWord} {s u : State}
    (hone : s.cfg.latchDiv = .one) (h : CountedBy n (powerOn p0 p1 s) u) (e : Encoder) :
    position u e = BitVec.ofInt 32 (n e) := by
  have hone' : u.cfg.latchDiv = .one := by rw [h.cfg]; exact hone
  rw [position_of_one hone', h.steps, powerOn_enc, resetEncoder]
  exact BitVec.zero_add _

/-- Settles O45: the two positions are 10 and 1205 whatever ran among the moves, so the next iteration reports the one
snapshot, unless the gate holds it. -/
theorem endToEndScenario : Obligations.EndToEndScenario := by
  intro s p0 p1 ms hone hinit hcart hangle
  obtain ⟨u, hrun, hcounted, hmain⟩ := runTurns_scenarioTurns ms (powerOn_atRest p0 p1 s)
  have hpositionCart : position u .cart = 10#32 := by
    rw [position_of_countedBy_powerOn hone hcounted, hcart]
    rfl
  have hpositionAngle : position u .angle = 1205#32 := by
    rw [position_of_countedBy_powerOn hone hcounted, hangle]
    rfl
  have next_iteration (hphase : u.loop.phase = .l0) : ∃ t, execTimes .loopStep 4 u = .next t ∧ t.loop.phase = .l0 ∧
      t.tx = u.tx ++ (if u.lastSent = some { cart := 10#32, angle := 5 } then []
        else [0xAA#8, 0x0A#8, 0x00#8, 0x05#8, 0x00#8]) := by
    obtain ⟨_, _, t, _, _, hfour, hback, _, _, _, htx, _⟩ := iterationSendsAtMostOneFrame u hphase
    rw [hpositionCart, hpositionAngle] at htx
    exact ⟨t, hfour, hback, htx⟩
  refine ⟨u, hrun, fun hall => ?_, next_iteration⟩
  obtain ⟨⟨hlast, htx⟩, _, hloop⟩ := hmain hall
  have hempty : u.tx = [] := htx
  have hphase : u.loop.phase = .l0 := congrArg LoopRegs.phase hloop
  have hgate : u.lastSent = none := by rw [hlast, powerOn_lastSent, hinit, resetLastSent]
  obtain ⟨t, hfour, hback, hsent⟩ := next_iteration hphase
  rw [hgate, hempty, if_neg nofun] at hsent
  exact ⟨hempty, t, hfour, hsent, hback⟩

/-! Admissible runs (R99). -/

/-- The phase after `p` in the round of R23. -/
def nextPhase : LoopPhase → LoopPhase
  | .l0 => .l1
  | .l1 => .l2
  | .l2 => .l3
  | .l3 => .l0

theorem execLoopStep_phase {s t : State} (h : execLoopStep s = .next t) : t.loop.phase = nextPhase s.loop.phase := by
  cases hphase : s.loop.phase with
  | l0 => rw [execLoopStep_l0 hphase] at h; cases h; rfl
  | l1 => rw [execLoopStep_l1 hphase] at h; cases h; rfl
  | l2 => rw [execLoopStep_l2 hphase] at h; cases h; rfl
  | l3 =>
    rw [execLoopStep_l3 hphase] at h
    obtain ⟨u, _, ht⟩ := andThen_eq_next h
    cases ht
    rfl

section
variable {turn : Nat → Turn} {run : Nat → State}

/-- Up to a MAIN step the phase stands still or power-on takes it to L0, and the MAIN step moves it on. -/
theorem phase_moves_by_main (hrun : IsRun turn run) {k n : Nat} (hmain : turn (n + k) = .main) :
    ∃ m, n ≤ m ∧ ((run m).loop.phase = .l0 ∨ (run m).loop.phase = nextPhase (run n).loop.phase) := by
  induction k generalizing n with
  | zero =>
    have hstep := hrun n
    rw [show turn n = .main from hmain] at hstep
    exact ⟨n + 1, by omega, .inr (execLoopStep_phase hstep)⟩
  | succ k ih =>
    have hstep := hrun n
    obtain ⟨m, hm, hphase⟩ := ih (n := n + 1) (by rwa [Nat.add_right_comm, Nat.add_assoc])
    rcases turn_cases (turn n) with hturn | ⟨p, q, hturn⟩ | hturn
    · rw [hturn] at hstep
      exact ⟨n + 1, by omega, .inr (execLoopStep_phase hstep)⟩
    · rw [hturn] at hstep
      have hreset : powerOn p q (run n) = run (n + 1) := Host.Outcome.next.inj hstep
      exact ⟨n + 1, by omega, .inl (by rw [← hreset]; rfl)⟩
    · obtain ⟨_, hloop⟩ := runTurn_notMain hturn hstep
      have hsame : (run (n + 1)).loop = (run n).loop := hloop
      rw [hsame] at hphase
      exact ⟨m, by omega, hphase⟩

theorem nextPhase_cases (p : LoopPhase) : nextPhase p = .l0 ∨ stepsToL0 (nextPhase p) + 1 = stepsToL0 p := by
  cases p with
  | l3 => exact .inl rfl
  | _ => exact .inr rfl

/-- Where MAIN steps again and again, the loop comes round: each move of the phase leaves one step less to L0. -/
theorem phase_comes_round (hrun : IsRun turn run) (hmain : ∀ n, ∃ m, n ≤ m ∧ turn m = .main) (n : Nat) :
    ∃ m, n ≤ m ∧ (run m).loop.phase = .l0 := by
  induction hsteps : stepsToL0 (run n).loop.phase using Nat.strong_induction_on generalizing n with
  | _ steps ih =>
    obtain ⟨m, hm, hturn⟩ := hmain n
    obtain ⟨k, hk, hphase⟩ := phase_moves_by_main hrun (k := m - n) (by rwa [Nat.add_sub_cancel' hm])
    rcases hphase with hround | hnext
    · exact ⟨k, hk, hround⟩
    · rcases nextPhase_cases (run n).loop.phase with hround | hfewer
      · exact ⟨k, hk, hnext.trans hround⟩
      · obtain ⟨l, hl, hround⟩ := ih _ (by rw [hnext]; omega) k rfl
        exact ⟨l, hk.trans hl, hround⟩

end

/-- Settles O60: the TICK that services the interrupt clears the flag, and the phase comes round by
`phase_comes_round`. -/
theorem admissibleRunsMakeProgress : Obligations.AdmissibleRunsMakeProgress := by
  rintro turn run ⟨hrun, hmain, hserviced⟩
  refine ⟨fun n e hpending => ?_, phase_comes_round hrun hmain⟩
  obtain ⟨m, hm, hturn⟩ := hserviced n e hpending
  have hstep := hrun m
  rw [hturn, runTurn_tick] at hstep
  have hcleared : serviceTick e _ _ (run m) = run (m + 1) := Host.Outcome.next.inj hstep
  exact ⟨m + 1, by omega, by rw [← hcleared, serviceTick_irq, PerEncoder.get_set_same]⟩

end Sys2Proof.Machine
end
